-- ==== Sys2Proof/Word.lean ====
section
/-! DEFINITION. The word types of the VKB416 and its fixed numbers of things: bytes, tags, counters, ports, banks. -/

namespace Sys2Proof

/-- One byte as it travels on a link (00_scope, Bits and bytes). -/
abbrev Byte := BitVec 8

/-- A 12-bit circuit tag, 0..4095 (R1, R160). -/
abbrev Tag := BitVec 12

/-- A 32-bit wrapping counter (00_scope, Principal figures). -/
abbrev Counter := BitVec 32

/-- A tributary port T0..T3, also the tributary a record names (R2, R118). -/
abbrev PortId := Fin 4

/-- A bank of the circuit table, 0..3 (R1). -/
abbrev BankId := Fin 4

/-- A traffic class, 0..3, class 3 highest (R160). -/
abbrev ClassId := Fin 4

/-- A tag that has a usable record: 0..4094 (R1). -/
abbrev UsableTag := Fin 4095

end Sys2Proof
end

