-- ==== Sys2Proof/Syntax.lean ====
section
/-! DEFINITION. The commands of the VKB416: one constructor of `Instr` for each row of spec/opcode_table.json, with the
types their operands need (the content of a circuit record, what a verify reads back, the blocks that hand reports). -/

namespace Sys2Proof

/-- The action of a record, with the tributary that DROP and TAP name (R2, R3). The tributary is present exactly for
those two, so it is an argument of their constructors. -/
inductive Action where
  | pass
  | drop (t : PortId)
  | tap (t : PortId)
  | sink
  deriving DecidableEq, Repr

/-- The state of a record, with its action, which is present in every record that is not VACANT (R2). A FAULTED record
keeps the action that was stored when it became FAULTED (R11), so one that claimed to be VACANT has none. -/
inductive RecState where
  | vacant
  | opened (a : Action)
  | spent (a : Action)
  | barred (a : Action)
  | faulted (a : Option Action)
  deriving DecidableEq, Repr

/-- The whole stored content of a circuit record (R2), less its check code. -/
structure Content where
  state    : RecState
  rewrite  : Option Tag
  classOv  : Option ClassId
  source   : Option PortId
  expected : Option Byte
  stamp    : Option Byte
  quota    : Option (BitVec 16)
  accepted : Counter
  refused  : Counter
  revision : Byte
  deriving DecidableEq, Repr

/-- The cleared content of R19. -/
def Content.cleared : Content :=
  { state := .vacant, rewrite := none, classOv := none, source := none, expected := none, stamp := none, quota := none,
    accepted := 0, refused := 0, revision := 0 }

/-- How the verify of one written record turns out (R14, R55). A mismatch is the hardware's, so it is an operand of
the command that writes; the content read back may differ from the content intended in any field. -/
inductive Verify where
  /-- The first verify matches. -/
  | stands
  /-- The first verify mismatches and the rewrite's verify matches. -/
  | rewritten
  /-- Both verifies mismatch; `readBack` is the content the second one read. -/
  | fails (readBack : Content)
  deriving DecidableEq, Repr

/-- The blocks that hand event reports to the Notice Unit (R177). Each tributary port is a block of its own, as R189 calls it,
so that reports of different ports may be taken in either order; 00_scope counts the four ports as one of nine blocks
(DESIGN CHOICE, log entry 29). -/
inductive Block where
  | steering
  | updateEngine
  | port (n : PortId)
  | trunkReceiver
  | leaseLogic
  deriving DecidableEq, Repr

/-- The commands of the VKB416: the rows of spec/opcode_table.json, in the table's order. -/
inductive Instr where
  /-- HARDWARE_RESET: RSTn is driven low, or power-up (R193). -/
  | hardwareReset
  /-- HARDWARE_RESET_END: hardware reset ends with these levels on NADDR and LMGT (R190). -/
  | hardwareResetEnd (naddr : Byte) (lmgt : Bool)
  /-- RECORD_DAMAGE: the stored content of a usable record becomes `content` without a write (R10). -/
  | recordDamage (tag : UsableTag) (content : Content)
  /-- TIN_SIGNAL_PRESENT (R93). -/
  | tinSignalPresent
  /-- TIN_SIGNAL_LOST; `begun` says whether an arrival had begun and not completed (R93, R94). -/
  | tinSignalLost (begun : Bool)
  /-- TIN_ARRIVAL: these bytes complete as one arrival on TIN (R96). -/
  | tinArrival (bytes : List Byte)
  /-- UNKNOWN_REQUEST: the Agent takes the cell in its hands, whose code is outside the catalogue (R147). -/
  | unknownRequest
  /-- NODE_QUERY: the Agent takes the NODE-QUERY in its hands (R153); so for each request below. -/
  | nodeQuery
  | countersRead
  | entryRead
  | tableScan
  | queueQuery
  | portQuery
  | nodeSet
  | queueSet
  | queueFlush
  | portSet
  | countersClear
  | nodeReset
  | assignAddress
  | batchOpen
  | batchEdit
  | batchCommit
  | batchAbort
  | leaseTake
  | leaseRenew
  | leaseGive
  /-- NOTICE_ACK: the Agent takes the NOTICE-ACK in its hands and hands it to the Notice Unit (R142, R183). -/
  | noticeAck
  /-- APPLY_START: a WAITING batch whose Hold Queue is empty begins (R51, R53). -/
  | applyStart
  /-- WRITE: the next edit of the bank in progress, a WRITE, is applied; `v` is its verify (R57). -/
  | write (v : Verify)
  | clear (v : Verify)
  | refill (v : Verify)
  | bar (v : Verify)
  | unbar (v : Verify)
  /-- CLEAR_BANK: `vs` gives the verify of each record whose first verify does not match (R62). -/
  | clearBank (vs : List (UsableTag × Verify))
  /-- BANK_END (R54). -/
  | bankEnd
  /-- START_UP_CLEAR: the start-up clear writes and verifies its next record (R191). -/
  | startUpClear (v : Verify)
  /-- TOUT_OPPORTUNITY; `order` is the order in which single deferred checks of the add queues are made before the
  rest are made in port order (R36, R107). -/
  | toutOpportunity (order : List PortId)
  /-- HOLD_QUEUE_DRAIN (R39). -/
  | holdQueueDrain
  /-- PORT_SIGNAL_PRESENT (R119). -/
  | portSignalPresent (n : PortId)
  /-- PORT_SIGNAL_LOST; `begun` as for TIN_SIGNAL_LOST (R119). -/
  | portSignalLost (n : PortId) (begun : Bool)
  /-- PORT_ARRIVAL: these bytes complete as one arrival on tributary `n` (R128). -/
  | portArrival (n : PortId) (bytes : List Byte)
  /-- ALIGN: a well-formed LINK cell with op ALIGN completes as an arrival on tributary `n` (R124). -/
  | align (n : PortId)
  /-- ALIGN_ACK: a well-formed LINK cell with op ALIGN-ACK and this sequence field arrives (R123). -/
  | alignAck (n : PortId) (token : Byte)
  /-- CREDIT: a well-formed LINK cell with op CREDIT and this amount arrives (R132). -/
  | credit (n : PortId) (amount : Byte)
  /-- PORT_OPPORTUNITY (R133). -/
  | portOpportunity (n : PortId)
  /-- RESEND_TIMER_EXPIRY (R121). -/
  | resendTimerExpiry (n : PortId)
  /-- STALL_TIMER_EXPIRY (R122). -/
  | stallTimerExpiry (n : PortId)
  /-- SILENCE_TIMEOUT (R125). -/
  | silenceTimeout (n : PortId)
  /-- ACK_TIMER_EXPIRY (R182). -/
  | ackTimerExpiry
  /-- LEASE_TIMER_EXPIRY (R172). -/
  | leaseTimerExpiry
  /-- EVENT_REPORT: the Notice Unit takes the oldest report this block has handed it (R178). -/
  | eventReport (b : Block)
  deriving DecidableEq, Repr

end Sys2Proof
end

