-- ==== Sys2Proof/Config.lean ====
section
/-! DEFINITION. What one part fixes and what the spec leaves open: constants without a body, so that no proof can lean
on a value of them. -/

namespace Sys2Proof

/-- The unit number of the part, set at manufacture (R152, log entry 13). -/
opaque Config.unitNumber : BitVec 32

/-- The silicon revision code, byte 3 of the NODE-QUERY body, whose value the spec does not give (R153, log entry 13). -/
opaque Config.siliconRevision : Byte

/-- FREE VALUE: how many whole seconds of a running lease timer have passed by the k-th time its remaining time is
read, before the bound of R166 is applied (log entry 8). -/
opaque Config.elapsed : Nat → Nat

end Sys2Proof
end

