-- ==== Sys2Proof/Machine/State.lean ====
section
/-! DEFINITION. The state of the VKB416, block by block as the spec lists who owns what (00_scope, Functional overview),
the reasons a step can stop, and the state after reset. -/

namespace Sys2Proof.Machine

/-! ### Cells and queues -/

/-- The kind of a cell: codes 0 to 3 (R160). -/
inductive Kind where
  | data
  | mgmt
  | idle
  | link
  deriving DecidableEq, Repr

/-- A 64-byte cell by its fields (R160), less the HCS byte: no block relies on the HCS of a cell it holds and every
transmitter writes it afresh (R77, R113). -/
structure Cell where
  tag      : Tag
  kind     : Kind
  cls      : ClassId
  seq      : Byte
  hop      : BitVec 4
  last     : Bool
  spare    : BitVec 3
  len      : BitVec 6
  spareLen : BitVec 2
  payload  : List Byte
  deriving DecidableEq, Repr

/-- A cell as it stands on a link: its 64 bytes, HCS included. -/
abbrev Frame := List Byte

/-- Where a queued cell came from (R77), with the codes of R87. -/
inductive Source where
  | trunk
  | tributary (n : PortId)
  | agent
  | notice
  deriving DecidableEq, Repr

/-- A queue entry (R77). -/
structure Entry where
  cell   : Cell
  source : Source
  marked : Bool
  deriving DecidableEq, Repr

/-- A queue: its entries oldest first, its floor and ceiling, and its three counters (R76, R78, R86). -/
structure Queue where
  entries  : List Entry
  floor    : Nat
  ceiling  : Nat
  admitted : Counter
  refused  : Counter
  flushed  : Counter
  deriving DecidableEq, Repr

/-- The number of a queue, 0..14 (R76). -/
abbrev QueueId := Fin 15

/-! ### The circuit table -/

/-- A stored record: its content, and whether its check code agrees with it (R10). -/
structure Record where
  content : Content
  good    : Bool
  deriving DecidableEq, Repr

/-- What a record position that the table does not list holds: the cleared content with a good check (R19). -/
def Record.cleared : Record := { content := Content.cleared, good := true }

/-- The records, by tag, strictly rising, listing none that holds `Record.cleared`. -/
abbrev Table := List (Nat × Record)

/-- The four bank states with the codes of R153 (R15). -/
inductive BankState where
  | unready
  | clearing
  | serving
  | updating
  deriving DecidableEq, Repr

/-- The node state (R189). -/
inductive NodeState where
  | starting
  | ready
  deriving DecidableEq, Repr

/-! ### The Update Engine -/

/-- An origin of requests (R142). -/
inductive Origin where
  | trunk (address : Byte)
  | localMgr
  deriving DecidableEq, Repr

/-- The hold policy of a batch (R42). -/
inductive HoldPolicy where
  | hold
  | pass
  | discard
  deriving DecidableEq, Repr

/-- The batch state (R42). -/
inductive BatchState where
  | none
  | opened
  | waiting
  | applying
  deriving DecidableEq, Repr

/-- A 12-byte edit image as it was staged (R47, R163). -/
abbrev Image := List Byte

/-- The outcome of an edit (R55). -/
inductive EditOutcome where
  | applied
  | skipped
  | failed
  deriving DecidableEq, Repr

/-- The outcome recorded for the edit at a list position, with the tag that an entry of the commit response gives. -/
structure Outcome where
  position : Nat
  tag      : Nat
  result   : EditOutcome
  deriving DecidableEq, Repr

/-- The batch state of R42. -/
structure Batch where
  state        : BatchState
  id           : Byte
  policy       : Option HoldPolicy
  staging      : List Image
  abortPending : Bool
  commit       : Option (Origin × BitVec 16)
  outcomes     : List Outcome
  deriving DecidableEq, Repr

/-! ### The trunk -/

/-- The TIN link state (R93). -/
inductive TinState where
  | silent
  | active
  deriving DecidableEq, Repr

/-- The Trunk Receiver's counters, in the order of R106. -/
structure RxCounters where
  arrivals      : Counter := 0
  truncated     : Counter := 0
  framing       : Counter := 0
  hcs           : Counter := 0
  kind          : Counter := 0
  length        : Counter := 0
  tagKind       : Counter := 0
  idlesReceived : Counter := 0
  dataReceived  : Counter := 0
  bypassed      : Counter := 0
  bypassExpired : Counter := 0
  mgmtConsumed  : Counter := 0
  mgmtTransit   : Counter := 0
  mgmtExpired   : Counter := 0
  orphans       : Counter := 0
  assignPassed  : Counter := 0
  signalLosses  : Counter := 0
  deriving DecidableEq, Repr

/-- The steering counters, in the order of R21. -/
structure SteerCounters where
  unknownPassed   : Counter := 0
  unknownSunk     : Counter := 0
  expired         : Counter := 0
  circuitSunk     : Counter := 0
  seqGaps         : Counter := 0
  held            : Counter := 0
  holdOverflow    : Counter := 0
  drained         : Counter := 0
  updatePassed    : Counter := 0
  updateDiscarded : Counter := 0
  addDeferred     : Counter := 0
  addUnchecked    : Counter := 0
  deriving DecidableEq, Repr

/-- The Trunk Scheduler's counters (R115). -/
structure SchedCounters where
  cellsSent : Counter := 0
  idlesSent : Counter := 0
  deriving DecidableEq, Repr

/-! ### The tributary ports -/

/-- The port state, with codes 0 to 3 (R118). -/
inductive PortState where
  | off
  | down
  | aligning
  | up
  deriving DecidableEq, Repr

/-- The port counters, in the order of R139. -/
structure PortCounters where
  arrivals         : Counter := 0
  truncated        : Counter := 0
  framing          : Counter := 0
  hcs              : Counter := 0
  length           : Counter := 0
  tagKind          : Counter := 0
  idlesReceived    : Counter := 0
  dataReceived     : Counter := 0
  addRefused       : Counter := 0
  creditViolations : Counter := 0
  notUp            : Counter := 0
  mgmtLocal        : Counter := 0
  mgmtRefused      : Counter := 0
  linkErrors       : Counter := 0
  linkIgnored      : Counter := 0
  peerRestarts     : Counter := 0
  cellsSent        : Counter := 0
  idlesSent        : Counter := 0
  alignSent        : Counter := 0
  creditSent       : Counter := 0
  creditsGranted   : Counter := 0
  upsLost          : Counter := 0
  silences         : Counter := 0
  stalls           : Counter := 0
  signalLosses     : Counter := 0
  deriving DecidableEq, Repr

/-- A tributary port (R118), with the cell its transmitter is sending (R135). -/
structure Port where
  state         : PortState
  signal        : Bool
  token         : Byte
  alignPending  : Bool
  resendTimer   : Bool
  stallTimer    : Bool
  stallReported : Bool
  silenceTimer  : Bool
  dropCredit    : Nat
  addCredits    : Nat
  ctr           : PortCounters
  sending       : Option Frame
  deriving DecidableEq, Repr

/-! ### The Management Agent -/

/-- The response state of an origin table entry, with the cached response while CACHED (R143). -/
inductive RespState where
  | pending
  | cached (response : Cell)
  deriving DecidableEq, Repr

/-- An origin table entry (R143). Its recency is its place in the table, most recent first. -/
structure OriginEntry where
  origin    : Origin
  lastSeq   : BitVec 16
  resp      : RespState
  owed      : Option (BitVec 16)
  deriving DecidableEq, Repr

/-- What the Agent must know of an origin's earlier requests, by their sequences: the latest it has dealt with, those executed
since the last reset, those of which a repeat is a new request whatever the origin table then holds (R70, R142, R164, R189,
R193, R197), and that of the NODE-RESET that the node has last executed, where it was this origin's (the MODEL's own item,
DEDUCED, log entry 28). -/
structure OriginPast where
  origin : Origin
  latest : BitVec 16
  since  : List (BitVec 16)
  anew   : List (BitVec 16)
  reset  : Option (BitVec 16)
  deriving DecidableEq, Repr

/-- A management cell in the Agent's hands, and whether it came from the local manager on T0 (R142). -/
structure HandCell where
  fromLocal : Bool
  cell      : Cell
  deriving DecidableEq, Repr

/-- The unknown-tag action (R24). -/
inductive UnknownAction where
  | pass
  | sink
  deriving DecidableEq, Repr

/-- The node settings (R152). A destination of `none` is NONE. -/
structure Settings where
  unknownTag  : UnknownAction
  hopLimit    : BitVec 4
  destination : Option Origin
  ackTimeout  : BitVec 16
  leasePeriod : Byte
  deriving DecidableEq, Repr

/-- The Agent's identity, settings, origin table and the cells in its hands, oldest first (R143, R152, R164). An address
of `none` is the unnumbered state. -/
structure Agent where
  address    : Option Byte
  unitNumber : BitVec 32
  lmgt       : Bool
  settings   : Settings
  origins    : List OriginEntry
  /-- The MODEL's own: what must be known of each origin's earlier requests (log entry 28). -/
  past       : List OriginPast
  hands      : List HandCell
  deriving DecidableEq, Repr

/-- The agent counters, in the order of R158. -/
structure AgentCounters where
  requestsConsumed : Counter := 0
  notRequest       : Counter := 0
  badSource        : Counter := 0
  acksForwarded    : Counter := 0
  startingAnswered : Counter := 0
  executed         : Counter := 0
  repeatsAnswered  : Counter := 0
  repeatsDropped   : Counter := 0
  stale            : Counter := 0
  entriesReplaced  : Counter := 0
  responsesQueued  : Counter := 0
  responsesLost    : Counter := 0
  deriving DecidableEq, Repr

/-- The update lease (R165): its state with its holder, and while HELD the whole seconds, rounded up, that the running
lease timer has left (R166). -/
inductive Lease where
  | free
  | held (holder : Origin) (secondsLeft : Nat)
  | overdue (holder : Origin)
  deriving DecidableEq, Repr

/-! ### The Notice Unit -/

/-- The nine notice types, with codes 1 to 9 (R177). -/
inductive NoticeType where
  | quotaSpent
  | seqGap
  | recordFault
  | holdOverflow
  | linkChange
  | alignStall
  | trunkChange
  | leaseLost
  | noticesLost
  deriving DecidableEq, Repr

/-- The detail of a report (R177). -/
inductive Detail where
  | none
  | sequences (expected received : Byte)
  | code (c : Byte)
  | count (n : Nat)
  deriving DecidableEq, Repr

/-- An event report (R177). -/
structure Report where
  type    : NoticeType
  subject : BitVec 16
  detail  : Detail
  deriving DecidableEq, Repr

/-- A report that a block has handed and the Notice Unit has not yet taken (R177, R178). -/
structure Handed where
  block  : Block
  report : Report
  deriving DecidableEq, Repr

/-- A notice queue entry (R176). -/
structure NoticeEntry where
  number   : BitVec 16
  type     : NoticeType
  subject  : BitVec 16
  detail   : Detail
  repeats  : Nat
  awaiting : Bool
  deriving DecidableEq, Repr

/-- The Notice Unit's queue and delivery state (R176). The ack timer holds the period it was started at. -/
structure Notices where
  queue       : List NoticeEntry
  nextNumber  : BitVec 16
  lost        : Nat
  retry       : Nat
  ackTimer    : Option (BitVec 16)
  unreachable : Bool
  deriving DecidableEq, Repr

/-- The Notice Unit's counters, in the order of R187. -/
structure NoticeCounters where
  reportsTaken     : Counter := 0
  reportsCoalesced : Counter := 0
  reportsLost      : Counter := 0
  entriesCreated   : Counter := 0
  noticesSent      : Counter := 0
  noticesResent    : Counter := 0
  noticesRefused   : Counter := 0
  acksMatched      : Counter := 0
  acksIgnored      : Counter := 0
  unreachables     : Counter := 0
  deriving DecidableEq, Repr

/-! ### The whole device -/

/-- The state of the VKB416, and the commands that wait for it. -/
structure State where
  /-- Held in hardware reset: RSTn is low, or power-up has not finished (R190). -/
  held      : Bool
  nodeState : NodeState
  tin       : TinState
  rx        : RxCounters
  table     : Table
  banks     : Vector BankState 4
  /-- The next tag the start-up clear writes (R191). -/
  clearNext : Nat
  steer     : SteerCounters
  batch     : Batch
  queues    : Vector Queue 15
  /-- The four rotation pointers; position 0 is TQc and position n+1 is AQn (R110). -/
  rotation  : Vector (Fin 5) 4
  sched     : SchedCounters
  /-- The cell the TOUT transmitter is sending (R75, R107). -/
  tout      : Option Frame
  ports     : Vector Port 4
  agent     : Agent
  agentCtr  : AgentCounters
  lease     : Lease
  notices   : Notices
  noticeCtr : NoticeCounters
  /-- Event reports handed and not yet taken, in the order handed. -/
  handed    : List Handed
  /-- The MODEL's own: how many free values have been drawn (log entry 8). -/
  draws     : Nat
  /-- The MODEL's own: the commands that wait, first in, first out. -/
  pending   : List Instr
  deriving DecidableEq, Repr

/-- The faults. No command of the VKB416 stops the machine: the spec gives every happening an effect, or an occasion
it cannot occur on, which leaves the state as it is (log entry 2). So no constructor exists. -/
inductive Fault where
  deriving DecidableEq, Repr

/-- The refusals. -/
inductive Refusal where
  /-- Raised by `exec` for a command that has no meaning yet; safe. No arm of `exec` raises it. -/
  | notModelled (mnemonic : String)
  deriving DecidableEq, Repr

/-! ### Reset values -/

/-- An empty queue with this floor and ceiling. -/
def Queue.empty (floor ceiling : Nat) : Queue :=
  { entries := [], floor, ceiling, admitted := 0, refused := 0, flushed := 0 }

/-- The fifteen queues after hardware reset (R92). -/
def defaultQueues : Vector Queue 15 :=
  #v[.empty 16 128, .empty 16 128, .empty 16 128, .empty 16 128,
     .empty 16 64, .empty 16 64, .empty 16 64, .empty 16 64,
     .empty 16 16, .empty 16 16, .empty 16 16, .empty 16 16,
     .empty 8 32, .empty 8 16, .empty 4 8]

/-- A port after hardware reset (R118). -/
def Port.reset : Port :=
  { state := .down, signal := false, token := 0, alignPending := false, resendTimer := false, stallTimer := false,
    stallReported := false, silenceTimer := false, dropCredit := 0, addCredits := 0, ctr := {}, sending := none }

/-- The batch state after hardware reset (R42). -/
def Batch.reset : Batch :=
  { state := .none, id := 0, policy := none, staging := [], abortPending := false, commit := none, outcomes := [] }

/-- The settings after hardware reset (R152). -/
def Settings.reset : Settings :=
  { unknownTag := .pass, hopLimit := 15, destination := none, ackTimeout := 100, leasePeriod := 10 }

/-- The Notice Unit after hardware reset (R188). -/
def Notices.reset : Notices :=
  { queue := [], nextNumber := 0, lost := 0, retry := 0, ackTimer := none, unreachable := false }

/-- The state while hardware reset is held, over a table whose stored content the reset leaves alone (R19), for the
part with this unit number, with this record of the origins' past (log entry 28). The straps are not sampled before the
reset ends (R190), so the node stands unnumbered with LMGT low until then (log entry 1). -/
def State.inReset (table : Table) (unitNumber : BitVec 32) (past : List OriginPast) (draws : Nat)
    (pending : List Instr) : State :=
  { held := true
    nodeState := .starting
    tin := .silent
    rx := {}
    table := table
    banks := #v[.unready, .unready, .unready, .unready]
    clearNext := 0
    steer := {}
    batch := .reset
    queues := defaultQueues
    rotation := #v[0, 0, 0, 0]
    sched := {}
    tout := none
    ports := #v[.reset, .reset, .reset, .reset]
    agent := { address := none, unitNumber := unitNumber, lmgt := false, settings := .reset, origins := [], past := past,
               hands := [] }
    agentCtr := {}
    lease := .free
    notices := .reset
    noticeCtr := {}
    handed := []
    draws := draws
    pending := pending }

/-- The machine right after reset is taken, at power-up: held in hardware reset until HARDWARE_RESET_END, with no
command waiting. The stored content of the records is not observable before the start-up clear has written it (R19). -/
def State.reset : State := State.inReset [] Config.unitNumber [] 0 []

end Sys2Proof.Machine
end

