-- ==== Sys2Proof/Machine/Operands.lean ====
section
/-! DEFINITION. The formats: byte order, the header check sequence, cells and their bytes, the management envelope, LINK
cells, edit images and the digest (section 7.8, R49, R95). Every field a command carries is read here and nowhere else. -/

namespace Sys2Proof.Machine

/-! ### Byte order (00_scope, Bits and bytes) -/

/-- The byte at a place of a body or payload; bytes past the end read 00h. -/
def byteAt (bs : List Byte) (i : Nat) : Byte := bs.getD i 0

/-- A two-byte value, the more significant byte first. -/
def word16 (hi lo : Byte) : BitVec 16 := hi ++ lo

/-- The two-byte value at a place. -/
def word16At (bs : List Byte) (i : Nat) : BitVec 16 := word16 (byteAt bs i) (byteAt bs (i + 1))

/-- The four-byte value at a place. -/
def word32At (bs : List Byte) (i : Nat) : BitVec 32 := word16At bs i ++ word16At bs (i + 2)

/-- The two bytes of a value, the more significant first. -/
def bytes16 (w : BitVec 16) : List Byte := [w.extractLsb' 8 8, w.extractLsb' 0 8]

/-- The four bytes of a value, the more significant first. -/
def bytes32 (w : BitVec 32) : List Byte :=
  [w.extractLsb' 24 8, w.extractLsb' 16 8, w.extractLsb' 8 8, w.extractLsb' 0 8]

/-- A count as a two-byte field. -/
def natBytes16 (n : Nat) : List Byte := bytes16 (BitVec.ofNat 16 n)

/-- A list of bytes brought to a length by cutting it, or by adding 00h bytes at its end. -/
def padTo (n : Nat) (bs : List Byte) : List Byte := (bs ++ List.replicate n 0).take n

/-! ### Check codes -/

/-- The bits of a byte, most significant first. -/
def bitsOf (b : Byte) : List Bool :=
  [b.getLsbD 7, b.getLsbD 6, b.getLsbD 5, b.getLsbD 4, b.getLsbD 3, b.getLsbD 2, b.getLsbD 1, b.getLsbD 0]

/-- One bit taken into the header check register (R95). -/
def hcsBit (r : Byte) (bit : Bool) : Byte := if r.msb != bit then (r <<< 1) ^^^ 0x07#8 else r <<< 1

/-- The header check sequence of bytes 0 to 4 (R95). -/
def hcsOf (header : List Byte) : Byte := (header.flatMap bitsOf).foldl hcsBit 0

/-- One bit taken into the digest register (R49). -/
def digestBit (r : BitVec 16) (bit : Bool) : BitVec 16 := if r.msb != bit then (r <<< 1) ^^^ 0x1021#16 else r <<< 1

/-- The digest of a staging list (R49). -/
def digestOf (images : List Image) : BitVec 16 := (images.flatten.flatMap bitsOf).foldl digestBit 0xFFFF#16

/-! ### Cells (R160) -/

/-- The kind code of R160. -/
def Kind.code : Kind → BitVec 2
  | .data => 0
  | .mgmt => 1
  | .idle => 2
  | .link => 3

/-- The kind a code stands for. -/
def Kind.ofCode (b : BitVec 2) : Kind :=
  if b = 0 then .data else if b = 1 then .mgmt else if b = 2 then .idle else .link

/-- Header bytes 0 to 4 of a cell. -/
def Cell.header (c : Cell) : List Byte :=
  [c.tag.extractLsb' 4 8,
   c.tag.extractLsb' 0 4 ++ c.kind.code ++ BitVec.ofFin (w := 2) c.cls,
   c.seq,
   c.hop ++ BitVec.ofBool c.last ++ c.spare,
   c.len ++ c.spareLen]

/-- The 64 bytes a transmitter sends for a cell, the HCS written over bytes 0 to 4 as they stand (R113). -/
def Cell.frame (c : Cell) : Frame := c.header ++ hcsOf c.header :: c.payload

/-- The cell whose fields 64 bytes hold. -/
def cellOfBytes (bs : List Byte) : Cell :=
  { tag := byteAt bs 0 ++ (byteAt bs 1).extractLsb' 4 4
    kind := Kind.ofCode ((byteAt bs 1).extractLsb' 2 2)
    cls := ((byteAt bs 1).extractLsb' 0 2).toFin
    seq := byteAt bs 2
    hop := (byteAt bs 3).extractLsb' 4 4
    last := (byteAt bs 3).getLsbD 3
    spare := (byteAt bs 3).extractLsb' 0 3
    len := (byteAt bs 4).extractLsb' 2 6
    spareLen := (byteAt bs 4).extractLsb' 0 2
    payload := bs.drop 6 }

/-- Byte 5 of an arrival equals the HCS of its bytes 0 to 4 (R95). -/
def hcsMatches (bs : List Byte) : Bool := byteAt bs 5 == hcsOf (bs.take 5)

/-- The management tag. -/
def mgmtTag : Tag := 4095

/-- The bank of a tag: its two most significant bits (R1). -/
def bankOf (t : Tag) : BankId := (t.extractLsb' 10 2).toFin

/-- The bank of a record position. -/
def bankOfNat (n : Nat) : BankId := Fin.ofNat 4 (n / 1024)

/-- The IDLE cell every transmitter sends (R112). -/
def idleCell : Cell :=
  { tag := 0, kind := .idle, cls := 0, seq := 0, hop := 0, last := false, spare := 0, len := 0, spareLen := 0,
    payload := List.replicate 58 0 }

/-- A LINK cell a port builds: its op in the tag field, a value in the sequence field, all else 0 (R121, R161). -/
def linkCell (op : Tag) (value : Byte) : Cell := { idleCell with tag := op, kind := .link, seq := value }

/-- The link op ALIGN. -/
def opAlign : Tag := 1

/-- The link op ALIGN-ACK. -/
def opAlignAck : Tag := 2

/-- The link op CREDIT. -/
def opCredit : Tag := 3

/-! ### The management envelope (R141, R162) -/

/-- Payload byte 0: the destination. -/
def Cell.destination (c : Cell) : Byte := byteAt c.payload 0

/-- Payload byte 1: the source. -/
def Cell.sourceByte (c : Cell) : Byte := byteAt c.payload 1

/-- Payload bytes 2 and 3: the request sequence, or the number of a notice. -/
def Cell.reqSeq (c : Cell) : BitVec 16 := word16At c.payload 2

/-- Payload byte 4: the request code. -/
def Cell.code (c : Cell) : Byte := byteAt c.payload 4

/-- Payload byte 5 bit 7: set in responses and notices. -/
def Cell.flagged (c : Cell) : Bool := (byteAt c.payload 5).getLsbD 7

/-- Payload byte 6: the status. -/
def Cell.status (c : Cell) : Byte := byteAt c.payload 6

/-- Payload byte 7: the body length. -/
def Cell.bodyLen (c : Cell) : Nat := (byteAt c.payload 7).toNat

/-- The body, from payload byte 8. -/
def Cell.body (c : Cell) : List Byte := (c.payload.drop 8).take c.bodyLen

/-- The body does not fit: its length is above 50, or the header's length field is below 8 plus it (R147). -/
def Cell.bodyMisfits (c : Cell) : Bool := decide (50 < c.bodyLen) || decide (c.len.toNat < 8 + c.bodyLen)

/-- The origin code of a byte of the body of R147 and R153: 254 is LOCAL. -/
def Origin.code : Origin → Byte
  | .trunk a => a
  | .localMgr => 254

/-- The destination byte of a cell sent to an origin: 255 for LOCAL (R148, R181). -/
def Origin.destByte : Origin → Byte
  | .trunk a => a
  | .localMgr => 255

/-- A management cell that the node builds: its header, its envelope and its body, then 00h bytes (R148, R181). -/
def mgmtCell (hop : BitVec 4) (dest source : Byte) (seq : BitVec 16) (code status : Byte) (body : List Byte) : Cell :=
  { tag := mgmtTag, kind := .mgmt, cls := 3, seq := 0, hop := hop, last := true, spare := 0
    len := BitVec.ofNat 6 (8 + body.length), spareLen := 0
    payload := padTo 58 ([dest, source] ++ bytes16 seq ++ [code, 0x80, status, BitVec.ofNat 8 body.length] ++ body) }

/-- A cached response with its source byte and hop renewed (R150). -/
def Cell.renewed (c : Cell) (source : Byte) (hop : BitVec 4) : Cell :=
  { c with hop := hop, payload := c.payload.set 1 source }

/-! ### Edit images (R46, R163) -/

/-- An edit with the fields its op uses. The content of a WRITE stands with both counts 0 and revision 0. -/
inductive Edit where
  | write (tag : Tag) (content : Content)
  | clear (tag : Tag)
  | refill (tag : Tag) (value : BitVec 16)
  | bar (tag : Tag)
  | unbar (tag : Tag)
  | clearBank (bank : BankId)
  deriving DecidableEq, Repr

/-- The action an image's byte 3 gives (R163). -/
def actionOfByte (b : Byte) : Action :=
  let t : PortId := (b.extractLsb' 0 2).toFin
  let code := b.extractLsb' 3 2
  if code = 0 then .pass else if code = 1 then .drop t else if code = 2 then .tap t else .sink

/-- The content a WRITE image gives (R57). -/
def contentOfImage (i : Image) (state : RecState) : Content :=
  let flags := byteAt i 4
  { state := state
    rewrite := if flags.getLsbD 0 then some ((word16At i 5).extractLsb' 0 12) else none
    classOv := if flags.getLsbD 1 then some ((byteAt i 7).extractLsb' 6 2).toFin else none
    source := if flags.getLsbD 2 then some ((byteAt i 7).extractLsb' 4 2).toFin else none
    expected := if flags.getLsbD 3 then some (byteAt i 8) else none
    stamp := if flags.getLsbD 4 then some (byteAt i 9) else none
    quota := if flags.getLsbD 5 then some (word16At i 10) else none
    accepted := 0, refused := 0, revision := 0 }

/-- The tag in bytes 1 and 2 when it is in 0..4094 with its top four bits 0 (R46). -/
def tagField (w : BitVec 16) : Option Tag := if w.toNat ≤ 4094 then some (w.extractLsb' 0 12) else none

/-- The state a WRITE image gives: OPEN or BARRED (R46). -/
def writeState (b : Byte) : Option RecState :=
  if b.extractLsb' 5 3 = 1 then some (.opened (actionOfByte b))
  else if b.extractLsb' 5 3 = 3 then some (.barred (actionOfByte b))
  else none

/-- The rewrite tag and the initial quota of a WRITE image are in range where they are present (R46). -/
def writeFieldsValid (i : Image) : Bool :=
  (!(byteAt i 4).getLsbD 0 || decide ((word16At i 5).toNat ≤ 4094)) &&
  (!(byteAt i 4).getLsbD 5 || decide (word16At i 10 ≠ 0))

/-- The edit of a valid image, none of an invalid one (R46). -/
def editOf (i : Image) : Option Edit :=
  let op := byteAt i 0
  if op = 6 then
    if (word16At i 1).toNat ≤ 3 then some (.clearBank ((word16At i 1).extractLsb' 0 2).toFin) else none
  else
    match tagField (word16At i 1) with
    | none => none
    | some t =>
      if op = 1 then
        match writeState (byteAt i 3) with
        | some st => if writeFieldsValid i then some (.write t (contentOfImage i st)) else none
        | none => none
      else if op = 2 then some (.clear t)
      else if op = 3 then if word16At i 10 ≠ 0 then some (.refill t (word16At i 10)) else none
      else if op = 4 then some (.bar t)
      else if op = 5 then some (.unbar t)
      else none

/-- The bank an edit falls in (R52). -/
def Edit.bank : Edit → BankId
  | .write t _ | .clear t | .refill t _ | .bar t | .unbar t => bankOf t
  | .clearBank b => b

/-- The tag an entry of the commit response gives for an edit that is no CLEAR-BANK. -/
def Edit.tagNat : Edit → Nat
  | .write t _ | .clear t | .refill t _ | .bar t | .unbar t => t.toNat
  | .clearBank _ => 0

/-- The images of a BATCH-EDIT body, after its batch id (R45). -/
def imagesOf (body : List Byte) : List Image :=
  (List.range ((body.length - 1) / 12)).map fun k => (body.drop (1 + 12 * k)).take 12

/-- The action and tributary bits of byte 3 of an image; 0 for the fields that are absent (R72). -/
def actionBits : Option Action → Byte
  | none | some .pass => 0
  | some (.drop t) => 0x08 ||| BitVec.ofNat 8 t.val
  | some (.tap t) => 0x10 ||| BitVec.ofNat 8 t.val
  | some .sink => 0x18

/-- The action of a record state, where one is present. -/
def stateAction : RecState → Option Action
  | .vacant => none
  | .opened a | .spent a | .barred a => some a
  | .faulted a => a

/-- The state code of R72. -/
def stateCode : RecState → Byte
  | .vacant => 0
  | .opened _ => 1
  | .spent _ => 2
  | .barred _ => 3
  | .faulted _ => 4

/-- A presence flag of byte 4. -/
def presence {α : Type} (o : Option α) (bit : Byte) : Byte := if o.isSome then bit else 0

/-- The 12-byte image that ENTRY-READ returns of a record (R72). -/
def imageOf (tag : Tag) (c : Content) : Image :=
  (0 : Byte) :: bytes16 (tag.setWidth 16) ++
  [(stateCode c.state <<< 5) ||| actionBits (stateAction c.state),
   presence c.quota 0x20 ||| presence c.stamp 0x10 ||| presence c.expected 0x08 ||| presence c.source 0x04 |||
     presence c.classOv 0x02 ||| presence c.rewrite 0x01] ++
  bytes16 ((c.rewrite.getD 0).setWidth 16) ++
  [(BitVec.ofNat 8 (c.classOv.getD 0).val <<< 6) ||| (BitVec.ofNat 8 (c.source.getD 0).val <<< 4),
   c.expected.getD 0, c.stamp.getD 0] ++
  bytes16 (c.quota.getD 0)

end Sys2Proof.Machine
end

