-- ==== Sys2Proof/Machine/Flags.lean ====
section
/-! DEFINITION. The codes the node reports its state with: status codes, state codes, the delivery state, the head byte of a
queue, and the counter groups in the order COUNTERS-READ gives them. -/

namespace Sys2Proof.Machine

/-! ### Status codes (R151) -/

/-- The status of a response. -/
inductive Status where
  | ok
  | partialDone
  | aborted
  | busy
  | starting
  | notHolder
  | heldByOther
  | noBatch
  | batchOpen
  | full
  | count
  | digest
  | range
  | refused
  | malformed
  | unknown
  | notUnnumbered
  deriving DecidableEq, Repr

/-- The status code in envelope byte 6 (R151). -/
def Status.code : Status → Byte
  | .ok => 0
  | .partialDone => 1
  | .aborted => 2
  | .busy => 3
  | .starting => 4
  | .notHolder => 5
  | .heldByOther => 6
  | .noBatch => 7
  | .batchOpen => 8
  | .full => 9
  | .count => 10
  | .digest => 11
  | .range => 12
  | .refused => 13
  | .malformed => 14
  | .unknown => 15
  | .notUnnumbered => 16

/-! ### State codes -/

/-- The batch state code (R153). -/
def BatchState.code : BatchState → Byte
  | .none => 0
  | .opened => 1
  | .waiting => 2
  | .applying => 3

/-- The hold policy code; 255 where no batch has been opened (R44, R153). -/
def policyCode : Option HoldPolicy → Byte
  | some .hold => 0
  | some .pass => 1
  | some .discard => 2
  | none => 255

/-- The hold policy a code stands for (R44). -/
def policyOfCode (b : Byte) : Option HoldPolicy :=
  if b = 0 then some .hold else if b = 1 then some .pass else if b = 2 then some .discard else none

/-- The bank state code (R153). -/
def BankState.code : BankState → BitVec 2
  | .unready => 0
  | .clearing => 1
  | .serving => 2
  | .updating => 3

/-- The port state code (R118). -/
def PortState.code : PortState → BitVec 2
  | .off => 0
  | .down => 1
  | .aligning => 2
  | .up => 3

/-- The TIN state code (R153, R177). -/
def TinState.code : TinState → Byte
  | .silent => 0
  | .active => 1

/-- The node state code (R153). -/
def NodeState.code : NodeState → Byte
  | .starting => 0
  | .ready => 1

/-- The unknown-tag action code (R154). -/
def UnknownAction.code : UnknownAction → Byte
  | .pass => 0
  | .sink => 1

/-- The code of an optional origin: 255 for none (R147, R153, R154). -/
def originCode : Option Origin → Byte
  | some o => o.code
  | none => 255

/-- The notice type code (R177). -/
def NoticeType.code : NoticeType → Byte
  | .quotaSpent => 1
  | .seqGap => 2
  | .recordFault => 3
  | .holdOverflow => 4
  | .linkChange => 5
  | .alignStall => 6
  | .trunkChange => 7
  | .leaseLost => 8
  | .noticesLost => 9

/-- The four detail bytes of a NOTICE body (R181). -/
def Detail.bytes : Detail → List Byte
  | .none => [0, 0, 0, 0]
  | .sequences e r => [e, r, 0, 0]
  | .code c => [c, 0, 0, 0]
  | .count n => natBytes16 n ++ [0, 0]

/-- The outcome code of an entry of the commit response (R64); APPLIED edits have no entry. -/
def EditOutcome.code : EditOutcome → Byte
  | .applied => 1
  | .skipped => 2
  | .failed => 3

/-- The source code of the head byte (R87). -/
def Source.code : Source → Byte
  | .trunk => 0
  | .tributary n => BitVec.ofNat 8 (n.val + 1)
  | .agent => 5
  | .notice => 6

/-- The head byte and head tag of QUEUE-QUERY (R87). -/
def headBytes : List Entry → List Byte
  | [] => [0, 0, 0]
  | e :: _ => (0x80 ||| (if e.marked then 0x40 else 0) ||| e.source.code) :: bytes16 (e.cell.tag.setWidth 16)

/-- The delivery state (R180). -/
inductive Delivery where
  | idle
  | awaiting
  | unreachable
  | halted
  deriving DecidableEq, Repr

/-- The delivery state code (R180). -/
def Delivery.code : Delivery → Byte
  | .idle => 0
  | .awaiting => 1
  | .unreachable => 2
  | .halted => 3

/-- The oldest entry of the notice queue is AWAITING. -/
def Notices.oldestAwaiting (n : Notices) : Bool := (n.queue.head?.map (·.awaiting)).getD false

/-- The delivery state, from the destination, the unreachable flag and the oldest entry (R180). -/
def deliveryState (destination : Option Origin) (n : Notices) : Delivery :=
  match destination with
  | none => .halted
  | some _ => if n.unreachable then .unreachable else if n.oldestAwaiting then .awaiting else .idle

/-! ### Counter groups (R157) -/

/-- The receiver counters in the order of R106. -/
def RxCounters.list (c : RxCounters) : List Counter :=
  [c.arrivals, c.truncated, c.framing, c.hcs, c.kind, c.length, c.tagKind, c.idlesReceived, c.dataReceived, c.bypassed,
   c.bypassExpired, c.mgmtConsumed, c.mgmtTransit, c.mgmtExpired, c.orphans, c.assignPassed, c.signalLosses]

/-- The steering counters in the order of R21. -/
def SteerCounters.list (c : SteerCounters) : List Counter :=
  [c.unknownPassed, c.unknownSunk, c.expired, c.circuitSunk, c.seqGaps, c.held, c.holdOverflow, c.drained,
   c.updatePassed, c.updateDiscarded, c.addDeferred, c.addUnchecked]

/-- The scheduler counters (R115). -/
def SchedCounters.list (c : SchedCounters) : List Counter := [c.cellsSent, c.idlesSent]

/-- The agent counters in the order of R158. -/
def AgentCounters.list (c : AgentCounters) : List Counter :=
  [c.requestsConsumed, c.notRequest, c.badSource, c.acksForwarded, c.startingAnswered, c.executed, c.repeatsAnswered,
   c.repeatsDropped, c.stale, c.entriesReplaced, c.responsesQueued, c.responsesLost]

/-- The Notice Unit's counters in the order of R187. -/
def NoticeCounters.list (c : NoticeCounters) : List Counter :=
  [c.reportsTaken, c.reportsCoalesced, c.reportsLost, c.entriesCreated, c.noticesSent, c.noticesResent,
   c.noticesRefused, c.acksMatched, c.acksIgnored, c.unreachables]

/-- The port counters in the order of R139. -/
def PortCounters.list (c : PortCounters) : List Counter :=
  [c.arrivals, c.truncated, c.framing, c.hcs, c.length, c.tagKind, c.idlesReceived, c.dataReceived, c.addRefused,
   c.creditViolations, c.notUp, c.mgmtLocal, c.mgmtRefused, c.linkErrors, c.linkIgnored, c.peerRestarts, c.cellsSent,
   c.idlesSent, c.alignSent, c.creditSent, c.creditsGranted, c.upsLost, c.silences, c.stalls, c.signalLosses]

/-- The counters of a group, none for a number above 7 (R157). -/
def State.counterGroup (s : State) (group : Nat) : Option (List Counter) :=
  if group = 0 then some (s.rx.list ++ s.steer.list)
  else if group = 1 then some s.sched.list
  else if group = 2 then some s.agentCtr.list
  else if group = 3 then some s.noticeCtr.list
  else if group ≤ 7 then some (s.ports[Fin.ofNat 4 (group - 4)]).ctr.list
  else none

end Sys2Proof.Machine
end

