-- ==== Sys2Proof/Machine/Ops.lean ====
section
/-! DEFINITION. The named operations every meaning is built from: reading and writing records, the Queue Manager's claims,
removals and flushes, counting, and handing reports to the Notice Unit. -/

namespace Sys2Proof.Machine

/-! ### Records (R1, R10) -/

/-- The record at a position; a position not listed holds the cleared record. -/
def tableRead : Table → Nat → Record
  | [], _ => Record.cleared
  | (k, r) :: rest, n => if k = n then r else tableRead rest n

/-- The table with a record stored at a position, kept strictly rising and listing no cleared record. -/
def tableWrite : Table → Nat → Record → Table
  | [], n, r => if r = Record.cleared then [] else [(n, r)]
  | (k, x) :: rest, n, r =>
    if k < n then (k, x) :: tableWrite rest n r
    else if k = n then if r = Record.cleared then rest else (n, r) :: rest
    else if r = Record.cleared then (k, x) :: rest else (n, r) :: (k, x) :: rest

/-- The canonical form: usable tags only, strictly rising, none holding the cleared record. -/
def tableWf (t : Table) : Bool :=
  decide ((t.map Prod.fst).Pairwise (· < ·)) && t.all fun e => decide (e.1 < 4095) && decide (e.2 ≠ Record.cleared)

/-- The record of a position. -/
def State.record (s : State) (n : Nat) : Record := tableRead s.table n

/-- Store a record at a position. -/
def State.setRecord (s : State) (n : Nat) (r : Record) : State := { s with table := tableWrite s.table n r }

/-- Write content with its check code, as one write (R10). -/
def State.writeContent (s : State) (n : Nat) (c : Content) : State := s.setRecord n { content := c, good := true }

/-- Content with its state made FAULTED and all else kept (R11). -/
def faultedContent (c : Content) : Content := { c with state := .faulted (stateAction c.state) }

/-! ### Counting -/

/-- Change the receiver counters. -/
def State.countRx (s : State) (f : RxCounters → RxCounters) : State := { s with rx := f s.rx }

/-- Change the steering counters. -/
def State.countSteer (s : State) (f : SteerCounters → SteerCounters) : State := { s with steer := f s.steer }

/-- Change the scheduler counters. -/
def State.countSched (s : State) (f : SchedCounters → SchedCounters) : State := { s with sched := f s.sched }

/-- Change the agent counters. -/
def State.countAgent (s : State) (f : AgentCounters → AgentCounters) : State := { s with agentCtr := f s.agentCtr }

/-- Change the Notice Unit's counters. -/
def State.countNotice (s : State) (f : NoticeCounters → NoticeCounters) : State := { s with noticeCtr := f s.noticeCtr }

/-! ### Ports and banks -/

/-- A tributary port. -/
def State.port (s : State) (n : PortId) : Port := s.ports[n]

/-- Replace a tributary port. -/
def State.setPort (s : State) (n : PortId) (p : Port) : State := { s with ports := s.ports.set n.val p n.isLt }

/-- Change a tributary port. -/
def State.onPort (s : State) (n : PortId) (f : Port → Port) : State := s.setPort n (f (s.port n))

/-- Change a port's counters. -/
def State.countPort (s : State) (n : PortId) (f : PortCounters → PortCounters) : State :=
  s.onPort n fun p => { p with ctr := f p.ctr }

/-- The state of a bank. -/
def State.bank (s : State) (b : BankId) : BankState := s.banks[b]

/-- Move a bank to a state. -/
def State.setBank (s : State) (b : BankId) (x : BankState) : State := { s with banks := s.banks.set b.val x b.isLt }

/-- The four ports, or the four banks, in ascending order. -/
def allFour : List (Fin 4) := [0, 1, 2, 3]

/-- The same change made to each of four things. -/
def mapFour {α : Type} (f : α → α) (v : Vector α 4) : Vector α 4 := #v[f v[0], f v[1], f v[2], f v[3]]

/-- The same change made to each of fifteen things. -/
def mapFifteen {α : Type} (f : α → α) (v : Vector α 15) : Vector α 15 :=
  #v[f v[0], f v[1], f v[2], f v[3], f v[4], f v[5], f v[6], f v[7], f v[8], f v[9], f v[10], f v[11], f v[12], f v[13],
     f v[14]]

/-! ### Queues (R76 to R85) -/

/-- The trunk queue of a class. -/
def tq (c : ClassId) : QueueId := ⟨c.val, by omega⟩

/-- The drop queue of a port. -/
def dq (n : PortId) : QueueId := ⟨4 + n.val, by omega⟩

/-- The add queue of a port. -/
def aq (n : PortId) : QueueId := ⟨8 + n.val, by omega⟩

/-- The Hold Queue. -/
def hq : QueueId := 12

/-- The management queue toward the trunk. -/
def mqt : QueueId := 13

/-- The management queue toward the local manager. -/
def mql : QueueId := 14

/-- A queue. -/
def State.queue (s : State) (q : QueueId) : Queue := s.queues[q]

/-- Replace a queue. -/
def State.setQueue (s : State) (q : QueueId) (x : Queue) : State := { s with queues := s.queues.set q.val x q.isLt }

/-- The occupancy of a queue (R75). -/
def Queue.occupancy (q : Queue) : Nat := q.entries.length

/-- The unused reservation of a queue (R79). -/
def Queue.unused (q : Queue) : Nat := q.floor - q.occupancy

/-- The slots the fifteen queues own (R75). -/
def usedSlots (qs : Vector Queue 15) : Nat := (qs.toList.map Queue.occupancy).sum

/-- The free slots: 512 less those owned (R75). -/
def State.freeSlots (s : State) : Nat := 512 - usedSlots s.queues

/-- The sum of the unused reservations of the fifteen queues (R79). -/
def reserveOf (qs : Vector Queue 15) : Nat := (qs.toList.map Queue.unused).sum

/-- The reserve (R79). -/
def State.reserve (s : State) : Nat := reserveOf s.queues

/-- The admission rule (R79). -/
def State.admits (s : State) (q : QueueId) : Bool :=
  decide (0 < s.freeSlots) &&
  (decide ((s.queue q).occupancy < (s.queue q).floor) ||
   (decide ((s.queue q).occupancy < (s.queue q).ceiling) && decide (s.reserve < s.freeSlots)))

/-- A claim to place an entry on a queue, decided whole; the flag says whether it was admitted (R79). -/
def State.claim (s : State) (q : QueueId) (e : Entry) : State × Bool :=
  let x := s.queue q
  if s.admits q then (s.setQueue q { x with entries := x.entries ++ [e], admitted := x.admitted + 1 }, true)
  else (s.setQueue q { x with refused := x.refused + 1 }, false)

/-- A claim whose outcome the claimant does not act on (R20). -/
def State.offer (s : State) (q : QueueId) (c : Cell) (src : Source) : State :=
  (s.claim q { cell := c, source := src, marked := false }).1

/-- Replace the entries of a queue, as a removal or a rewrite in place does (R82, R83). -/
def State.setEntries (s : State) (q : QueueId) (es : List Entry) : State :=
  s.setQueue q { s.queue q with entries := es }

/-- Take the head of a queue off it (R82). -/
def State.dropHead (s : State) (q : QueueId) : State := s.setEntries q (s.queue q).entries.tail

/-- Flush a queue (R84). -/
def State.flush (s : State) (q : QueueId) : State :=
  let x := s.queue q
  s.setQueue q { x with entries := [], flushed := x.flushed + BitVec.ofNat 32 x.occupancy }

/-- The grantable amount of a port (R118). -/
def State.grantable (s : State) (n : PortId) : Nat :=
  if (s.port n).state = .up then
    min 255 ((s.queue (aq n)).floor - (s.queue (aq n)).occupancy - (s.port n).addCredits)
  else 0

/-! ### Event reports (R177) -/

/-- A block hands the Notice Unit a report, and does not wait for it. -/
def State.hand (s : State) (b : Block) (r : Report) : State := { s with handed := s.handed ++ [{ block := b, report := r }] }

/-- A report whose subject is a tag. -/
def tagReport (ty : NoticeType) (tag : Nat) (d : Detail) : Report := { type := ty, subject := BitVec.ofNat 16 tag, detail := d }

/-- RECORD-FAULT detail LOOKUP (R177). -/
def lookupDetail : Detail := .code 1

/-- RECORD-FAULT detail VERIFY (R177). -/
def verifyDetail : Detail := .code 2

/-! ### Written and verified records (R14, R55) -/

/-- Write content to a position and verify it; the flag says whether the write stands. A write that fails twice leaves
the record FAULTED with the content read back, and is reported (R14). -/
def State.writeVerified (s : State) (n : Nat) (c : Content) (v : Verify) : State × Bool :=
  match v with
  | .stands | .rewritten => (s.writeContent n c, true)
  | .fails read => ((s.writeContent n (faultedContent read)).hand .updateEngine (tagReport .recordFault n verifyDetail), false)

end Sys2Proof.Machine
end

