-- ==== Sys2Proof/Machine/Notices.lean ====
section
/-! DEFINITION. The Notice Unit: taking reports, sending, resending, acknowledgement and recovery (chapter 9), with the
commands ACK_TIMER_EXPIRY and EVENT_REPORT. -/

namespace Sys2Proof.Machine

/-! ### What a management cell of this node carries -/

/-- The source byte of a cell this node builds: its address, or 254 while unnumbered (R148, R181). -/
def State.nodeSource (s : State) : Byte := s.agent.address.getD 254

/-- The management queue toward an origin (R148, R181). -/
def mgmtQueue : Origin → QueueId
  | .trunk _ => mqt
  | .localMgr => mql

/-- The NOTICE cell of an entry (R181). -/
def State.noticeCell (s : State) (o : Origin) (e : NoticeEntry) : Cell :=
  mgmtCell s.agent.settings.hopLimit o.destByte s.nodeSource e.number 0x40 0
    (e.type.code :: bytes16 e.subject ++ e.detail.bytes ++ [BitVec.ofNat 8 e.repeats])

/-- Offer the NOTICE cell of an entry to the queue of a destination; a refused claim is counted (R181). -/
def State.offerNotice (s : State) (o : Origin) (e : NoticeEntry) : State :=
  match s.claim (mgmtQueue o) { cell := s.noticeCell o e, source := .notice, marked := false } with
  | (t, true) => t
  | (t, false) => t.countNotice fun c => { c with noticesRefused := c.noticesRefused + 1 }

/-! ### Sending and resending -/

/-- Send the oldest entry, when it is UNSENT, the destination is set and the unreachable flag is clear (R181). -/
def State.sendOldest (s : State) : State :=
  match s.agent.settings.destination, s.notices.queue with
  | some o, e :: rest =>
    if e.awaiting || s.notices.unreachable then s
    else
      let t := (s.offerNotice o e).countNotice fun c => { c with noticesSent := c.noticesSent + 1 }
      { t with notices :=
          { t.notices with
            queue := { e with awaiting := true } :: rest
            retry := 0
            ackTimer := some s.agent.settings.ackTimeout } }
  | _, _ => s

/-- Resend the AWAITING entry to a destination, with this retry count, and restart the ack timer (R182, R184, R185). -/
def State.resendNotice (s : State) (o : Origin) (e : NoticeEntry) (retry : Nat) : State :=
  let t := (s.offerNotice o e).countNotice fun c => { c with noticesResent := c.noticesResent + 1 }
  { t with notices := { t.notices with retry := retry, ackTimer := some s.agent.settings.ackTimeout } }

/-! ### Taking reports -/

/-- An UNSENT entry of a type and subject. -/
def NoticeEntry.unsentOf (e : NoticeEntry) (ty : NoticeType) (subject : BitVec 16) : Bool :=
  !e.awaiting && decide (e.type = ty) && decide (e.subject = subject)

/-- A repeat count raised by 1, saturating at 255 (R176). -/
def satRepeat (n : Nat) : Nat := min 255 (n + 1)

/-- Append a new UNSENT entry, with the next notice number (R178). -/
def State.appendEntry (s : State) (r : Report) : State :=
  let e : NoticeEntry :=
    { number := s.notices.nextNumber, type := r.type, subject := r.subject, detail := r.detail, repeats := 1,
      awaiting := false }
  { s with
    notices := { s.notices with queue := s.notices.queue ++ [e], nextNumber := s.notices.nextNumber + 1 }
    noticeCtr := { s.noticeCtr with entriesCreated := s.noticeCtr.entriesCreated + 1 } }

/-- The Notice Unit takes one event report (R178). -/
def State.takeReport (s : State) (r : Report) : State :=
  let s := s.countNotice fun c => { c with reportsTaken := c.reportsTaken + 1 }
  if s.notices.queue.any (·.unsentOf r.type r.subject) then
    let merge (e : NoticeEntry) : NoticeEntry :=
      if e.unsentOf r.type r.subject then { e with detail := r.detail, repeats := satRepeat e.repeats } else e
    { s with
      notices := { s.notices with queue := s.notices.queue.map merge }
      noticeCtr := { s.noticeCtr with reportsCoalesced := s.noticeCtr.reportsCoalesced + 1 } }
  else if s.notices.queue.length < 16 then (s.appendEntry r).sendOldest
  else
    { s with
      notices := { s.notices with lost := min 65535 (s.notices.lost + 1) }
      noticeCtr := { s.noticeCtr with reportsLost := s.noticeCtr.reportsLost + 1 } }

/-- A NOTICES-LOST detail with more reports added, saturating at 65535 (R179). -/
def addLost (d : Detail) (n : Nat) : Detail :=
  match d with
  | .count m => .count (min 65535 (m + n))
  | _ => .count n

/-- Account for lost reports after a removal (R179). -/
def State.accountLost (s : State) : State :=
  if s.notices.lost = 0 then s
  else if s.notices.queue.any (·.unsentOf .noticesLost 0) then
    let extend (e : NoticeEntry) : NoticeEntry :=
      if e.unsentOf .noticesLost 0 then
        { e with detail := addLost e.detail s.notices.lost, repeats := satRepeat e.repeats }
      else e
    { s with notices := { s.notices with queue := s.notices.queue.map extend, lost := 0 } }
  else
    let t := s.appendEntry { type := .noticesLost, subject := 0, detail := .count s.notices.lost }
    { t with notices := { t.notices with lost := 0 } }

/-! ### Acknowledgement and recovery -/

/-- The oldest entry, when it is AWAITING. -/
def Notices.awaitingEntry (n : Notices) : Option NoticeEntry :=
  match n.queue with
  | e :: _ => if e.awaiting then some e else none
  | [] => none

/-- The Notice Unit takes a NOTICE-ACK (R183). -/
def State.takeAck (s : State) (o : Origin) (number : BitVec 16) : State :=
  let ignored := s.countNotice fun c => { c with acksIgnored := c.acksIgnored + 1 }
  match s.notices.awaitingEntry with
  | some e =>
    if s.agent.settings.destination = some o ∧ e.number = number then
      let t := s.countNotice fun c => { c with acksMatched := c.acksMatched + 1 }
      let u := { t with notices := { t.notices with queue := t.notices.queue.tail, ackTimer := none, unreachable := false } }
      u.accountLost.sendOldest
    else ignored
  | none => ignored

/-- Contact from an origin, given after a request of its was executed (R184). -/
def State.contact (s : State) (o : Origin) : State :=
  match s.notices.unreachable, s.notices.awaitingEntry with
  | true, some e =>
    if s.agent.settings.destination = some o then
      { s with notices := { s.notices with unreachable := false } }.resendNotice o e 0
    else s
  | _, _ => s

/-- The Notice Unit is told of the destination as it now stands (R185). -/
def State.destinationSelected (s : State) : State :=
  let t := { s with notices := { s.notices with unreachable := false } }
  match s.agent.settings.destination with
  | none => { t with notices := { t.notices with ackTimer := none } }
  | some o =>
    match s.notices.awaitingEntry with
    | some e => t.resendNotice o e 0
    | none => t.sendOldest

/-- Take the oldest report of a block out of those handed. -/
def takeHanded (b : Block) : List Handed → Option (Report × List Handed)
  | [] => none
  | h :: rest =>
    if h.block = b then some (h.report, rest)
    else (takeHanded b rest).map fun p => (p.1, h :: p.2)

/-! ### The commands -/

/-- ACK_TIMER_EXPIRY (R182). Without a running timer, or while held in hardware reset, no expiry occurs. -/
def execAckTimerExpiry (s : State) : Host.Outcome State Fault Refusal :=
  match s.held, s.notices.ackTimer, s.notices.awaitingEntry, s.agent.settings.destination with
  | false, some _, some e, some o =>
    if s.notices.retry < 4 then .next (s.resendNotice o e (s.notices.retry + 1))
    else
      .next { s with
        notices := { s.notices with unreachable := true, ackTimer := none }
        noticeCtr := { s.noticeCtr with unreachables := s.noticeCtr.unreachables + 1 } }
  | _, _, _, _ => .next s

/-- EVENT_REPORT (R178): the Notice Unit takes the oldest report that a block has handed and it has not taken. -/
def execEventReport (b : Block) (s : State) : Host.Outcome State Fault Refusal :=
  match takeHanded b s.handed with
  | some (r, rest) => .next ({ s with handed := rest }.takeReport r)
  | none => .next s

end Sys2Proof.Machine
end

