-- ==== Sys2Proof/Machine/Agent.lean ====
section
/-! DEFINITION. The Management Agent's own work: screening cells, the origin table, building and offering responses, the
update lease, and the frame in which every request is executed (chapters 7 and 8). -/

namespace Sys2Proof.Machine

/-! ### The update lease (R165 to R173) -/

/-- The holder of the lease. -/
def Lease.holder : Lease → Option Origin
  | .free => none
  | .held o _ => some o
  | .overdue o => some o

/-- Start or restart the lease timer for a holder, at the lease period as it stands (R166). -/
def State.leaseTo (s : State) (o : Origin) : State := { s with lease := .held o s.agent.settings.leasePeriod.toNat }

/-- Read the lease timer: its remaining time in seconds, rounded up. How much has run since it was last read is a free
value, within the bound that a running timer has not run out (R166, log entry 8). -/
def State.readLease (s : State) : State × Nat :=
  match s.lease with
  | .held o n =>
    let left := n - Config.elapsed s.draws % n
    ({ s with lease := .held o left, draws := s.draws + 1 }, left)
  | _ => (s, 0)

/-- LEASE-LOST of an old holder: detail 1 EXPIRED, 2 FORCED (R177). -/
def leaseLost (o : Origin) (cause : Byte) : Report :=
  { type := .leaseLost, subject := o.code.setWidth 16, detail := .code cause }

/-- The lease logic takes the end of a batch (R173). -/
def State.batchEndSignal (s : State) : State :=
  match s.lease with
  | .overdue o => { s with lease := .free }.hand .leaseLogic (leaseLost o 1)
  | _ => s

/-! ### Responses (R148 to R150) -/

/-- A response cell (R148). -/
def State.response (s : State) (o : Origin) (seq : BitVec 16) (code : Byte) (st : Status) (body : List Byte) : Cell :=
  mgmtCell s.agent.settings.hopLimit o.destByte s.nodeSource seq code st.code body

/-- Offer a response to the management queue of its origin (R149). -/
def State.offerResponse (s : State) (o : Origin) (c : Cell) : State :=
  match s.claim (mgmtQueue o) { cell := c, source := .agent, marked := false } with
  | (t, true) => t.countAgent fun k => { k with responsesQueued := k.responsesQueued + 1 }
  | (t, false) => t.countAgent fun k => { k with responsesLost := k.responsesLost + 1 }

/-- Change the origin table entry of an origin. -/
def State.onEntry (s : State) (o : Origin) (f : OriginEntry → OriginEntry) : State :=
  { s with agent := { s.agent with origins := s.agent.origins.map fun e => if e.origin = o then f e else e } }

/-- The origin table entry of an origin. -/
def State.entryOf (s : State) (o : Origin) : Option OriginEntry := s.agent.origins.find? fun e => decide (e.origin = o)

/-- The commit response is handed to the Agent, which clears the owed commit, caches the response when the commit is
still the origin's last request, and offers it (R65, R145). -/
def State.deliverCommit (s : State) (o : Origin) (seq : BitVec 16) (st : Status) (body : List Byte) : State :=
  let cell := s.response o seq 0x22 st body
  let settle (e : OriginEntry) : OriginEntry :=
    { e with owed := none, resp := if e.lastSeq = seq then .cached cell else e.resp }
  (s.onEntry o settle).offerResponse o cell

/-! ### Screening (R142, R144) -/

/-- What the Agent makes of a cell in its hands. -/
inductive Verdict where
  | notRequest
  | badSource
  | ack
  | starting
  | repeatOf (response : Cell)
  | repeatPending
  | stale
  | execute
  deriving DecidableEq, Repr

/-- The origin of a cell in the Agent's hands (R142). -/
def HandCell.origin (m : HandCell) : Origin := if m.fromLocal then .localMgr else .trunk m.cell.sourceByte

/-- A sequence is newer than another: its serial difference is 1..32767 (R144). -/
def newerSeq (seq last : BitVec 16) : Bool := decide (1 ≤ (seq - last).toNat) && decide ((seq - last).toNat ≤ 32767)

/-- A request with this sequence is a new one whatever the origin table holds (R70, R142, R164, R189, R193, R197; log
entry 28). -/
def Agent.takesAnew (a : Agent) (o : Origin) (seq : BitVec 16) : Bool :=
  a.past.any fun p => decide (p.origin = o) && p.anew.contains seq

/-- How a request stands to its origin's entry (R144). A repeat that another rule takes as a new request is new where it is
older than the last request executed (log entry 28). -/
def OriginEntry.classify (e : OriginEntry) (anew : Bool) (seq : BitVec 16) : Verdict :=
  if seq = e.lastSeq then
    match e.resp with
    | .cached c => .repeatOf c
    | .pending => .repeatPending
  else if newerSeq seq e.lastSeq || anew then .execute
  else .stale

/-- A request with this sequence has been dealt with: executed, or answered so that its repeat is a new request. Sequences that
the latest one has come round to are forgotten: they are to come again (R144, log entry 28). -/
def OriginPast.noted (p : OriginPast) (seq : BitVec 16) (anew : Bool) : OriginPast :=
  let latest := if newerSeq seq p.latest then seq else p.latest
  let stands (x : BitVec 16) : Bool := decide (x ≠ seq) && !newerSeq x latest
  { p with
    latest := latest
    since := (if anew then [] else [seq]) ++ p.since.filter stands
    anew := (if anew then [seq] else []) ++ p.anew.filter stands
    reset := p.reset.filter stands }

/-- Note a request of an origin as dealt with (log entry 28). -/
def State.notePast (s : State) (o : Origin) (seq : BitVec 16) (anew : Bool) : State :=
  let first : OriginPast := { origin := o, latest := seq, since := [], anew := [], reset := none }
  let known := s.agent.past.any fun p => decide (p.origin = o)
  { s with agent := { s.agent with
      past := ((if known then [] else [first]) ++ s.agent.past).map fun p =>
        if p.origin = o then p.noted seq anew else p } }

/-- The screening of a cell, and the classification of a request against its origin's entry (R142, R144). -/
def State.verdict (s : State) (m : HandCell) : Verdict :=
  if m.cell.flagged then .notRequest
  else if !m.fromLocal && decide (254 ≤ m.cell.sourceByte.toNat) then .badSource
  else if m.cell.code = 0x41 then .ack
  else if s.nodeState = .starting ∧ m.cell.code ≠ 0x01 then .starting
  else
    match s.entryOf m.origin with
    | none => .execute
    | some e => e.classify (s.agent.takesAnew m.origin m.cell.reqSeq) m.cell.reqSeq

/-- Take one cell out of consideration: it is counted as handed to the Agent (R142, log entry 10). -/
def State.consume (s : State) : State := s.countAgent fun c => { c with requestsConsumed := c.requestsConsumed + 1 }

/-- Deal with a cell that is neither executed nor a NOTICE-ACK (R142, R144, R150). -/
def State.dispose (s : State) (m : HandCell) (v : Verdict) : State :=
  let s := s.consume
  match v with
  | .notRequest => s.countAgent fun c => { c with notRequest := c.notRequest + 1 }
  | .badSource => s.countAgent fun c => { c with badSource := c.badSource + 1 }
  | .starting =>
    ((s.countAgent fun c => { c with startingAnswered := c.startingAnswered + 1 }).notePast m.origin m.cell.reqSeq
      true).offerResponse m.origin (s.response m.origin m.cell.reqSeq m.cell.code .starting [])
  | .repeatOf r =>
    (s.countAgent fun c => { c with repeatsAnswered := c.repeatsAnswered + 1 }).offerResponse m.origin
      (r.renewed s.nodeSource s.agent.settings.hopLimit)
  | .repeatPending => s.countAgent fun c => { c with repeatsDropped := c.repeatsDropped + 1 }
  | .stale => s.countAgent fun c => { c with stale := c.stale + 1 }
  | .ack | .execute => s

/-- The cells in the Agent's hands. -/
def State.setHands (s : State) (hs : List HandCell) : State := { s with agent := { s.agent with hands := hs } }

/-- The Agent deals with the cells in its hands, oldest first, up to the first that it is to execute or to hand on as
a NOTICE-ACK: that one is a happening of its own (R142). -/
def settleHands : List HandCell → State → State
  | [], s => s.setHands []
  | m :: rest, s =>
    if s.verdict m = .ack ∨ s.verdict m = .execute then s.setHands (m :: rest)
    else settleHands rest (s.dispose m (s.verdict m))

/-- Hand a management cell to the Agent (R102, R131). -/
def State.giveAgent (s : State) (m : HandCell) : State := settleHands (s.agent.hands ++ [m]) s

/-! ### Executing a request (R147) -/

/-- A request as its block takes it. -/
structure Request where
  origin : Origin
  seq    : BitVec 16
  code   : Byte
  body   : List Byte
  deriving DecidableEq, Repr

/-- What a block makes of a request: a response, an accepted commit, which has none yet (R50), or the response of a
NODE-RESET, after which the reports of its handling are taken (R196). -/
inductive Reply where
  | answer (st : Status) (body : List Byte)
  | accepted
  | reset (body : List Byte)
  deriving DecidableEq, Repr

/-- The codes of the catalogue that the Agent executes (R151). -/
def catalogue : List Byte :=
  [0x01, 0x02, 0x03, 0x04, 0x05, 0x06, 0x10, 0x11, 0x12, 0x13, 0x14, 0x15, 0x16, 0x20, 0x21, 0x22, 0x23, 0x30, 0x31,
   0x32]

/-- The codes that the catalogue marks as needing the lease whatever the addressing state (R151). -/
def leaseCodes : List Byte := [0x10, 0x11, 0x12, 0x13, 0x14, 0x15, 0x20, 0x21, 0x22, 0x23]

/-- The request needs the lease as it is taken: one of those codes, or ASSIGN-ADDRESS on a numbered node (R147). -/
def State.needsLease (s : State) (code : Byte) : Bool :=
  leaseCodes.contains code || (decide (code = 0x16) && s.agent.address.isSome)

/-- The access that an unnumbered node refuses (R147). -/
def State.accessRefused (s : State) (o : Origin) (code : Byte) : Bool :=
  s.agent.address.isNone && decide (o ≠ .localMgr) && decide (code ≠ 0x01) && decide (code ≠ 0x16)

/-- The origin table with the least recent entry that is not pending removed (R144). -/
def dropLeastRecent (es : List OriginEntry) : List OriginEntry :=
  (es.reverse.eraseP fun e => e.owed.isNone).reverse

/-- Enter a request that is to be executed in the origin table: its sequence becomes the last (R143) and its entry the most
recent (R144). So a repeat that is executed as new lowers the last sequence, and the repeat of the requester's NODE-RESET, which
it was to find cached until a newer request is executed (R197), is then newer and executed (DESIGN CHOICE, log entry 30). -/
def State.enterOrigin (s : State) (o : Origin) (seq : BitVec 16) : State :=
  match s.entryOf o with
  | some e =>
    { s with agent := { s.agent with
        origins := { e with lastSeq := seq } :: s.agent.origins.filter fun x => decide (x.origin ≠ o) } }
  | none =>
    let e : OriginEntry := { origin := o, lastSeq := seq, resp := .pending, owed := none }
    if s.agent.origins.length < 8 then { s with agent := { s.agent with origins := e :: s.agent.origins } }
    else
      { s with
        agent := { s.agent with origins := e :: dropLeastRecent s.agent.origins }
        agentCtr := { s.agentCtr with entriesReplaced := s.agentCtr.entriesReplaced + 1 } }

/-- The request is a BATCH-COMMIT that R147 turns away with NOT-HOLDER, so that it does not reach the Update Engine. -/
def State.commitTurnedAway (s : State) (m : HandCell) : Bool :=
  decide (m.cell.code = 0x22) && !m.cell.bodyMisfits && !s.accessRefused m.origin m.cell.code &&
  decide (s.lease.holder ≠ some m.origin)

/-- A commit from before a NODE-RESET that is turned away for want of the lease: its repeat is to reach the Update Engine once
its origin holds the lease again (R70, log entry 28). -/
def State.staysAnew (s : State) (m : HandCell) : Bool :=
  s.commitTurnedAway m && s.agent.takesAnew m.origin m.cell.reqSeq

/-- The entry of a request that has been answered: it caches the response, unless its last sequence is that of the commit
it owes. The entry is PENDING exactly then (R143), also where the sequence has come round to the owed commit's, of which R145
by itself would cache the newer response (DESIGN CHOICE, log entry 27). -/
def OriginEntry.answered (e : OriginEntry) (cell : Cell) : OriginEntry :=
  { e with resp := if e.owed = some e.lastSeq then .pending else .cached cell }

/-- Build, cache and offer the response to a request (R147, R148). -/
def State.respond (s : State) (r : Request) (st : Status) (body : List Byte) : State :=
  let cell := s.response r.origin r.seq r.code st body
  (s.onEntry r.origin fun e => e.answered cell).offerResponse r.origin cell

/-- The renewal that follows a request that needed the lease (R170). -/
def State.renewFor (s : State) (o : Origin) : State := if s.lease.holder = some o then s.leaseTo o else s

/-- A report of the blocks that NODE-RESET resets: the Update Engine and the ports (R196). -/
def Handed.ofReset (h : Handed) : Bool :=
  match h.block with
  | .updateEngine | .port _ => true
  | _ => false

/-- After a NODE-RESET's response has been offered, the reports of its handling are taken, in the order handed (R196). -/
def State.takeResetReports (s : State) : State :=
  (s.handed.filter Handed.ofReset).foldl (fun t h => t.takeReport h.report)
    { s with handed := s.handed.filter fun h => !h.ofReset }

/-- A request to execute, taken out of the Agent's hands: counted, and entered in the origin table (R142, R144, R147). -/
def State.entered (s : State) (m : HandCell) (rest : List HandCell) : State :=
  (((s.setHands rest).consume.notePast m.origin m.cell.reqSeq (s.staysAnew m)).enterOrigin m.origin m.cell.reqSeq).countAgent
    fun c => { c with executed := c.executed + 1 }

/-- The handling of a request: the checks of R147 in order, then the block that the catalogue names. -/
def State.handled (s : State) (misfit : Bool) (r : Request) (handler : Request → State → State × Reply) : State × Reply :=
  if misfit then (s, .answer .malformed [])
  else if !catalogue.contains r.code then (s, .answer .unknown [])
  else if s.accessRefused r.origin r.code then (s, .answer .refused [])
  else if s.needsLease r.code = true ∧ s.lease.holder ≠ some r.origin then
    (s, .answer .notHolder [originCode s.lease.holder])
  else handler r s

/-- The lease logic and the Notice Unit take the request, in that order (R147). -/
def State.follow (s : State) (leased : Bool) (o : Origin) : State := (if leased then s.renewFor o else s).contact o

/-- What follows the handling of a request: its response, when it has one, then the lease logic and the contact (R147),
and after a NODE-RESET the reports of its handling (R196). -/
def State.concluded (s : State) (leased : Bool) (r : Request) : Reply → State
  | .answer st body => (s.respond r st body).follow leased r.origin
  | .accepted => s.follow leased r.origin
  | .reset body => ((s.respond r .ok body).follow leased r.origin).takeResetReports

/-- Execute a request that has been entered. -/
def State.execute (s : State) (misfit : Bool) (r : Request) (handler : Request → State → State × Reply) : State :=
  let (t, reply) := s.handled misfit r handler
  t.concluded (s.needsLease r.code) r reply

/-- The request in a management cell. -/
def HandCell.request (m : HandCell) : Request :=
  { origin := m.origin, seq := m.cell.reqSeq, code := m.cell.code, body := m.cell.body }

/-- The Agent takes the oldest cell in its hands as a request to execute, when it is one that `mine` accepts. A command
that names another request than the one in the Agent's hands is not taken (log entry 2). -/
def State.takeRequest (s : State) (mine : Byte → Bool) (handler : Request → State → State × Reply) : State :=
  match s.agent.hands with
  | [] => s
  | m :: rest =>
    if s.held = false ∧ s.verdict m = .execute ∧ mine m.cell.code = true then
      let t := (s.entered m rest).execute m.cell.bodyMisfits m.request handler
      settleHands t.agent.hands t
    else s

/-- Does the code name this request? -/
def isCode (code : Byte) (b : Byte) : Bool := decide (b = code)

/-- NOTICE_ACK: the Agent takes the NOTICE-ACK in its hands, and hands the Notice Unit its origin and number (R142,
R183). -/
def execNoticeAck (s : State) : Host.Outcome State Fault Refusal :=
  match s.agent.hands with
  | [] => .next s
  | m :: rest =>
    if s.held = false ∧ s.verdict m = .ack then
      let t := (s.setHands rest).consume.countAgent fun c => { c with acksForwarded := c.acksForwarded + 1 }
      let u := t.takeAck m.origin m.cell.reqSeq
      .next (settleHands u.agent.hands u)
    else .next s

end Sys2Proof.Machine
end

