-- ==== Sys2Proof/Machine/Steering.lean ====
section
/-! DEFINITION. The Steering Unit (chapter 2): trunk cells, lookups and actions, add checks, deferred checks, the hold policies
and the Hold Queue. -/

namespace Sys2Proof.Machine

/-! ### Sending on toward TOUT (R27) -/

/-- A cell with its hop lowered by 1. -/
def Cell.hopped (c : Cell) : Cell := { c with hop := c.hop - 1 }

/-- Send a prepared cell on toward TOUT, unless it is expired (R27). -/
def State.sendOn (s : State) (c : Cell) : State :=
  if c.hop = 0 then s.countSteer fun k => { k with expired := k.expired + 1 }
  else s.offer (tq c.cls) c.hopped .trunk

/-! ### Lookup (R12, R23 to R31) -/

/-- A record found damaged: made FAULTED with its refused count raised, and reported (R12). -/
def State.lookupFault (s : State) (n : Nat) (c : Content) : State :=
  (s.writeContent n { faultedContent c with refused := c.refused + 1 }).hand .steering
    (tagReport .recordFault n lookupDetail)

/-- The record refuses the cell (R23, R33). -/
def State.refuse (s : State) (n : Nat) (c : Content) : State := s.writeContent n { c with refused := c.refused + 1 }

/-- The content of an OPEN record charged and counted for a cell; the cell that brings the remaining quota to 0 makes
it SPENT (R25). -/
def charged (c : Content) (a : Action) : Content :=
  { c with
    quota := c.quota.map fun q => q - 1
    state := if c.quota = some 1 then .spent a else c.state
    accepted := c.accepted + 1 }

/-- The QUOTA-SPENT report of a charge (R25). -/
def State.reportSpent (s : State) (n : Nat) (c : Content) : State :=
  if c.quota = some 1 then s.hand .steering (tagReport .quotaSpent n .none) else s

/-- The expected sequence moved past a received one (R26). -/
def sequenced (c : Content) (received : Byte) : Content :=
  { c with expected := c.expected.map fun _ => received + 1 }

/-- The SEQ-GAP report and count of a sequence check (R26). -/
def State.reportGap (s : State) (n : Nat) (c : Content) (received : Byte) : State :=
  match c.expected with
  | some e =>
    if e = received then s
    else
      (s.hand .steering (tagReport .seqGap n (.sequences e received))).countSteer fun k =>
        { k with seqGaps := k.seqGaps + 1 }
  | none => s

/-- The copy of a cell that goes on toward TOUT, with the rewrite tag and class override of its record (R27). -/
def prepared (c : Cell) (r : Content) : Cell := { c with tag := r.rewrite.getD c.tag, cls := r.classOv.getD c.cls }

/-- A cell is dealt with by the action of its OPEN record (R28 to R31). -/
def State.act (s : State) (c : Cell) (r : Content) : Action → State
  | .pass => s.sendOn (prepared c r)
  | .drop t => s.offer (dq t) c .trunk
  | .tap t => (s.offer (dq t) c .trunk).sendOn (prepared c r)
  | .sink => s.countSteer fun k => { k with circuitSunk := k.circuitSunk + 1 }

/-- The unknown-tag action (R24). -/
def State.unknownTag (s : State) (c : Cell) : State :=
  match s.agent.settings.unknownTag with
  | .pass =>
    if c.hop = 0 then s.countSteer fun k => { k with expired := k.expired + 1 }
    else (s.countSteer fun k => { k with unknownPassed := k.unknownPassed + 1 }).sendOn c
  | .sink => s.countSteer fun k => { k with unknownSunk := k.unknownSunk + 1 }

/-- The lookup of a trunk DATA cell (R23). -/
def State.lookup (s : State) (c : Cell) : State :=
  let n := c.tag.toNat
  let r := s.record n
  if r.good then
    match r.content.state with
    | .vacant => s.unknownTag c
    | .spent _ | .barred _ | .faulted _ => s.refuse n r.content
    | .opened a =>
      (((s.writeContent n (sequenced (charged r.content a) c.seq)).reportSpent n r.content).reportGap n r.content
        c.seq).act c r.content a
  else s.lookupFault n r.content

/-! ### Trunk DATA cells and the Hold Queue (R22, R37, R38) -/

/-- The Hold Queue holds a cell of a bank. -/
def State.holds (s : State) (b : BankId) : Bool := (s.queue hq).entries.any fun e => decide (bankOf e.cell.tag = b)

/-- Offer a trunk DATA cell to the Hold Queue (R38). -/
def State.holdCell (s : State) (c : Cell) : State :=
  match s.claim hq { cell := c, source := .trunk, marked := false } with
  | (t, true) => t.countSteer fun k => { k with held := k.held + 1 }
  | (t, false) =>
    (t.countSteer fun k => { k with holdOverflow := k.holdOverflow + 1 }).hand .steering
      { type := .holdOverflow, subject := t.batch.id.setWidth 16, detail := .none }

/-- A trunk DATA cell meets the hold policy of the batch being applied (R37). -/
def State.meetPolicy (s : State) (c : Cell) : State :=
  match s.batch.policy with
  | some .hold | none => s.holdCell c
  | some .pass =>
    if c.hop = 0 then s.countSteer fun k => { k with expired := k.expired + 1 }
    else (s.countSteer fun k => { k with updatePassed := k.updatePassed + 1 }).sendOn c
  | some .discard => s.countSteer fun k => { k with updateDiscarded := k.updateDiscarded + 1 }

/-- The Steering Unit takes a trunk DATA cell (R22). While its bank is UNREADY or CLEARING it takes no work (R20). -/
def State.steerTrunk (s : State) (c : Cell) : State :=
  let b := bankOf c.tag
  if s.holds b then s.holdCell c
  else
    match s.bank b with
    | .serving => s.lookup c
    | .updating => s.meetPolicy c
    | .unready | .clearing => s

/-! ### Add cells (R32 to R35) -/

/-- The add check passes for a cell from a tributary: OPEN, and that tributary its source (R33). -/
def addPasses (r : Content) (n : PortId) : Option Action :=
  match r.state with
  | .opened a => if r.source = some n then some a else none
  | _ => none

/-- Raise a port's add-refused counter. -/
def State.addRefused (s : State) (n : PortId) : State := s.countPort n fun k => { k with addRefused := k.addRefused + 1 }

/-- A failed add check, as it bears on the record and the port (R33). -/
def State.addFails (s : State) (n : PortId) (tag : Nat) (r : Record) : State :=
  if r.good then
    match r.content.state with
    | .vacant => s.addRefused n
    | _ => (s.refuse tag r.content).addRefused n
  else (s.lookupFault tag r.content).addRefused n

/-- The next stamp advanced (R34). -/
def stamped (r : Content) : Content := { r with stamp := r.stamp.map fun x => x + 1 }

/-- A cell that passed its add check: stamped where its record has a stamp, with the hop limit (R34). -/
def State.addedCell (s : State) (c : Cell) (r : Content) : Cell :=
  { c with seq := r.stamp.getD c.seq, hop := s.agent.settings.hopLimit }

/-- A passed add check, as it bears on the record: charge, count and stamp (R34). -/
def State.addCharge (s : State) (tag : Nat) (r : Content) (a : Action) : State :=
  (s.writeContent tag (stamped (charged r a))).reportSpent tag r

/-- Place an add cell on the add queue of its port. -/
def State.offerAdd (s : State) (n : PortId) (c : Cell) (marked : Bool) : State × Bool :=
  s.claim (aq n) { cell := c, source := .tributary n, marked := marked }

/-- The add check of a cell from a tributary (R33, R34). -/
def State.addCheck (s : State) (n : PortId) (c : Cell) : State :=
  let tag := c.tag.toNat
  let r := s.record tag
  match r.good, addPasses r.content n with
  | true, some a => ((s.addCharge tag r.content a).offerAdd n (s.addedCell c r.content) false).1
  | _, _ => s.addFails n tag r

/-- An add cell meets the hold policy of the batch being applied (R35). -/
def State.addMeetsPolicy (s : State) (n : PortId) (c : Cell) : State :=
  match s.batch.policy with
  | some .hold | none =>
    match s.offerAdd n c true with
    | (t, true) => t.countSteer fun k => { k with addDeferred := k.addDeferred + 1 }
    | (t, false) => t
  | some .pass =>
    match s.offerAdd n { c with hop := s.agent.settings.hopLimit } false with
    | (t, true) => t.countSteer fun k => { k with addUnchecked := k.addUnchecked + 1 }
    | (t, false) => t
  | some .discard => s.addRefused n

/-- The Steering Unit takes an add cell (R32). -/
def State.steerAdd (s : State) (n : PortId) (c : Cell) : State :=
  match s.bank (bankOf c.tag) with
  | .serving => s.addCheck n c
  | .updating => s.addMeetsPolicy n c
  | .unready | .clearing => s

/-! ### The deferred check (R36) -/

/-- One check of the head of an add queue, when it is marked and its bank is SERVING (R36). -/
def State.deferredCheck (s : State) (n : PortId) : State :=
  match (s.queue (aq n)).entries with
  | [] => s
  | e :: rest =>
    if e.marked ∧ s.bank (bankOf e.cell.tag) = .serving then
      let tag := e.cell.tag.toNat
      let r := s.record tag
      match r.good, addPasses r.content n with
      | true, some a =>
        (s.addCharge tag r.content a).setEntries (aq n)
          ({ e with cell := s.addedCell e.cell r.content, marked := false } :: rest)
      | _, _ => (s.addFails n tag r).dropHead (aq n)
    else s

/-- The deferred checks of one add queue until its head is unmarked, waits for its bank, or is gone: at most one for
each of `fuel` entries (R36). -/
def deferredChecks : Nat → PortId → State → State
  | 0, _, s => s
  | fuel + 1, n, s => deferredChecks fuel n (s.deferredCheck n)

/-- All deferred checks of an opportunity: first single checks in the order given, then each add queue's remaining ones
in port order. The order among the queues is open (R18, R36, log entry 11). -/
def State.allDeferred (s : State) (order : List PortId) : State :=
  let t := order.foldl State.deferredCheck s
  allFour.foldl (fun u n => deferredChecks (u.queue (aq n)).occupancy n u) t

end Sys2Proof.Machine
end

