-- ==== Sys2Proof/Machine/Ports.lean ====
section
/-! DEFINITION. The tributary ports (chapter 6): port state and alignment, arrivals, credit in both directions, and the
commands of the ports. -/

namespace Sys2Proof.Machine

/-! ### Port state (R118 to R127) -/

/-- Move a port to a state and report the change (R127). -/
def State.movePort (s : State) (n : PortId) (x : PortState) : State :=
  (s.onPort n fun p => { p with state := x }).hand (.port n)
    { type := .linkChange, subject := BitVec.ofNat 16 n.val, detail := .code (x.code.setWidth 8) }

/-- A port enters ALIGNING (R120). -/
def State.enterAligning (s : State) (n : PortId) : State :=
  (s.onPort n fun p =>
    { p with
      token := p.token + 1
      alignPending := true
      resendTimer := true
      stallTimer := true
      stallReported := false }).movePort n .aligning

/-- A port in DOWN enters ALIGNING when its signal is present and the node READY (R120). -/
def State.tryAlign (s : State) (n : PortId) : State :=
  if (s.port n).state = .down ∧ (s.port n).signal = true ∧ s.nodeState = .ready then s.enterAligning n else s

/-- What leaving ALIGNING stops (R119). -/
def stopAligning (p : Port) : Port := { p with alignPending := false, resendTimer := false, stallTimer := false }

/-- The effects of leaving UP (R126), but for the change of state itself. -/
def State.leaveUp (s : State) (n : PortId) : State :=
  let t := s.onPort n fun p => { p with dropCredit := 0, addCredits := 0, silenceTimer := false }
  let u := t.flush (dq n)
  let v := if n = 0 then u.flush mql else u
  v.countPort n fun k => { k with upsLost := k.upsLost + 1 }

/-- A port leaves the state it is in for DOWN or OFF, with the effects of leaving UP or ALIGNING (R119, R137, R140). -/
def State.leaveFor (s : State) (n : PortId) (x : PortState) : State :=
  match (s.port n).state with
  | .up => (s.leaveUp n).movePort n x
  | .aligning => (s.onPort n stopAligning).movePort n x
  | .down | .off => if (s.port n).state = x then s else s.movePort n x

/-! ### Arrivals (R128 to R132) -/

/-- A port takes an arrival: it is not OFF, its signal is present, and the node is not held in reset (R128, R190). -/
def State.portTakes (s : State) (n : PortId) : Bool :=
  !s.held && decide ((s.port n).state ≠ .off) && (s.port n).signal

/-- Every completed arrival is counted, and restarts the silence timer of a port that is UP (R125, R128). -/
def State.portCounted (s : State) (n : PortId) : State := s.countPort n fun k => { k with arrivals := k.arrivals + 1 }

/-- Count a LINK cell that is ignored. -/
def State.linkIgnored (s : State) (n : PortId) : State := s.countPort n fun k => { k with linkIgnored := k.linkIgnored + 1 }

/-- Count a LINK error. -/
def State.linkError (s : State) (n : PortId) : State := s.countPort n fun k => { k with linkErrors := k.linkErrors + 1 }

/-- An ALIGN from the device (R124). -/
def State.onAlign (s : State) (n : PortId) : State :=
  match (s.port n).state with
  | .up => ((s.leaveUp n).countPort n fun k => { k with peerRestarts := k.peerRestarts + 1 }).enterAligning n
  | .aligning => (s.onPort n fun p => { p with alignPending := true }).linkIgnored n
  | .down | .off => s.linkIgnored n

/-- An ALIGN-ACK from the device (R123). -/
def State.onAlignAck (s : State) (n : PortId) (token : Byte) : State :=
  if (s.port n).state = .aligning ∧ token = (s.port n).token then
    (s.onPort n fun p => { stopAligning p with silenceTimer := true, dropCredit := 0, addCredits := 0 }).movePort n .up
  else s.linkIgnored n

/-- A CREDIT from the device (R132). -/
def State.onCredit (s : State) (n : PortId) (amount : Byte) : State :=
  if (s.port n).state = .up then
    if amount = 0 then s.linkError n
    else if 255 < (s.port n).dropCredit + amount.toNat then
      (s.onPort n fun p => { p with dropCredit := 255 }).linkError n
    else s.onPort n fun p => { p with dropCredit := p.dropCredit + amount.toNat }
  else s.linkIgnored n

/-- A DATA cell received in UP: the credit check, and the Steering Unit's taking of the cell (R130). -/
def State.onAddData (s : State) (n : PortId) (c : Cell) : State :=
  if (s.port n).addCredits = 0 then
    s.countPort n fun k => { k with creditViolations := k.creditViolations + 1 }
  else
    (s.onPort n fun p =>
      { p with addCredits := p.addCredits - 1, ctr := { p.ctr with dataReceived := p.ctr.dataReceived + 1 } }).steerAdd n c

/-- A MGMT cell received in UP (R131). -/
def State.onPortMgmt (s : State) (n : PortId) (c : Cell) : State :=
  if n = 0 ∧ s.agent.lmgt = true then
    (s.countPort n fun k => { k with mgmtLocal := k.mgmtLocal + 1 }).giveAgent { fromLocal := true, cell := c }
  else s.countPort n fun k => { k with mgmtRefused := k.mgmtRefused + 1 }

/-- A DATA or MGMT cell received while the port is not UP (R129). -/
def State.notUp (s : State) (n : PortId) : State := s.countPort n fun k => { k with notUp := k.notUp + 1 }

/-- A LINK cell by its op (R129). -/
def State.onLink (s : State) (n : PortId) (c : Cell) : State :=
  if c.tag = opAlign then s.onAlign n
  else if c.tag = opAlignAck then s.onAlignAck n c.seq
  else if c.tag = opCredit then s.onCredit n c.seq
  else s.linkError n

/-- A well-formed cell is handled by its kind and the port state (R129). -/
def State.onPortCell (s : State) (n : PortId) (c : Cell) : State :=
  match c.kind with
  | .idle => s.countPort n fun k => { k with idlesReceived := k.idlesReceived + 1 }
  | .data => if (s.port n).state = .up then s.onAddData n c else s.notUp n
  | .mgmt => if (s.port n).state = .up then s.onPortMgmt n c else s.notUp n
  | .link => s.onLink n c

/-- The tag-and-kind check (R96, R128). -/
def tagKindWrong (c : Cell) : Bool :=
  (decide (c.kind = .mgmt) && decide (c.tag ≠ mgmtTag)) || (decide (c.kind = .data) && decide (c.tag = mgmtTag))

/-- A completed arrival on a tributary passes the four checks and is handled (R128). -/
def State.portArrive (s : State) (n : PortId) (bytes : List Byte) : State :=
  let s := s.portCounted n
  let c := cellOfBytes bytes
  if bytes.length ≠ 64 then s.countPort n fun k => { k with framing := k.framing + 1 }
  else if !hcsMatches bytes then s.countPort n fun k => { k with hcs := k.hcs + 1 }
  else if 58 < c.len.toNat then s.countPort n fun k => { k with length := k.length + 1 }
  else if tagKindWrong c then s.countPort n fun k => { k with tagKind := k.tagKind + 1 }
  else s.onPortCell n c

/-! ### Transmit (R133 to R135) -/

/-- Put a cell on a port's link. -/
def State.portSend (s : State) (n : PortId) (c : Cell) : State := s.onPort n fun p => { p with sending := some c.frame }

/-- Send the head of a queue to the device against drop credit (R135). -/
def State.sendHead (s : State) (n : PortId) (q : QueueId) (e : Entry) : State :=
  ((s.dropHead q).onPort n fun p =>
    { p with dropCredit := p.dropCredit - 1, ctr := { p.ctr with cellsSent := p.ctr.cellsSent + 1 } }).portSend n e.cell

/-- Grant add credit with a CREDIT cell (R134). -/
def State.grantCredit (s : State) (n : PortId) : State :=
  let amount := s.grantable n
  (s.onPort n fun p =>
    { p with
      addCredits := p.addCredits + amount
      ctr := { p.ctr with
        creditSent := p.ctr.creditSent + 1
        creditsGranted := p.ctr.creditsGranted + BitVec.ofNat 32 amount } }).portSend n
    (linkCell opCredit (BitVec.ofNat 8 amount))

/-- Port 0 may send from the local management queue (R133). -/
def State.sendsLocal (s : State) (n : PortId) : Bool :=
  decide (n = 0) && s.agent.lmgt && decide ((s.port n).state = .up) && decide (0 < (s.port n).dropCredit)

/-- One transmit opportunity of a port (R133). -/
def State.portOpportunity (s : State) (n : PortId) : State :=
  let p := s.port n
  if p.alignPending then
    (s.onPort n fun p => { p with alignPending := false, ctr := { p.ctr with alignSent := p.ctr.alignSent + 1 } }).portSend
      n (linkCell opAlign p.token)
  else if 0 < s.grantable n then s.grantCredit n
  else
    match s.sendsLocal n, (s.queue mql).entries with
    | true, e :: _ => s.sendHead n mql e
    | _, _ =>
      match decide (p.state = .up) && decide (0 < p.dropCredit), (s.queue (dq n)).entries with
      | true, e :: _ => s.sendHead n (dq n) e
      | _, _ => (s.countPort n fun k => { k with idlesSent := k.idlesSent + 1 }).portSend n idleCell

/-! ### The commands -/

/-- PORT_SIGNAL_PRESENT (R119). -/
def execPortSignalPresent (n : PortId) (s : State) : Host.Outcome State Fault Refusal :=
  if s.held then .next s else .next ((s.onPort n fun p => { p with signal := true }).tryAlign n)

/-- PORT_SIGNAL_LOST (R119): `begun` says that an arrival had begun and not completed. -/
def execPortSignalLost (n : PortId) (begun : Bool) (s : State) : Host.Outcome State Fault Refusal :=
  if s.held then .next s
  else
    let cut := begun && s.portTakes n
    let t := s.onPort n fun p =>
      { p with
        signal := false
        ctr := { p.ctr with
          signalLosses := p.ctr.signalLosses + 1
          truncated := if cut then p.ctr.truncated + 1 else p.ctr.truncated } }
    match (s.port n).state with
    | .aligning | .up => .next (t.leaveFor n .down)
    | .down | .off => .next t

/-- PORT_ARRIVAL (R128). A port that is OFF or without signal takes no arrival. -/
def execPortArrival (n : PortId) (bytes : List Byte) (s : State) : Host.Outcome State Fault Refusal :=
  if s.portTakes n then .next (s.portArrive n bytes) else .next s

/-- ALIGN (R124): the arrival of an ALIGN, counted as every arrival is. -/
def execAlign (n : PortId) (s : State) : Host.Outcome State Fault Refusal :=
  if s.portTakes n then .next ((s.portCounted n).onAlign n) else .next s

/-- ALIGN_ACK (R123). -/
def execAlignAck (n : PortId) (token : Byte) (s : State) : Host.Outcome State Fault Refusal :=
  if s.portTakes n then .next ((s.portCounted n).onAlignAck n token) else .next s

/-- CREDIT (R132). -/
def execCredit (n : PortId) (amount : Byte) (s : State) : Host.Outcome State Fault Refusal :=
  if s.portTakes n then .next ((s.portCounted n).onCredit n amount) else .next s

/-- PORT_OPPORTUNITY (R133). A port in OFF has no opportunities. -/
def execPortOpportunity (n : PortId) (s : State) : Host.Outcome State Fault Refusal :=
  if s.held = true ∨ (s.port n).state = .off then .next s else .next (s.portOpportunity n)

/-- RESEND_TIMER_EXPIRY (R121). -/
def execResendTimerExpiry (n : PortId) (s : State) : Host.Outcome State Fault Refusal :=
  if s.held = false ∧ (s.port n).resendTimer = true ∧ (s.port n).state = .aligning then
    .next (s.onPort n fun p => { p with alignPending := true })
  else .next s

/-- STALL_TIMER_EXPIRY (R122). -/
def execStallTimerExpiry (n : PortId) (s : State) : Host.Outcome State Fault Refusal :=
  if s.held = false ∧ (s.port n).stallTimer = true ∧ (s.port n).state = .aligning then
    .next ((s.onPort n fun p =>
      { p with stallReported := true, stallTimer := false, ctr := { p.ctr with stalls := p.ctr.stalls + 1 } }).hand (.port n)
      { type := .alignStall, subject := BitVec.ofNat 16 n.val, detail := .none })
  else .next s

/-- SILENCE_TIMEOUT (R125). -/
def execSilenceTimeout (n : PortId) (s : State) : Host.Outcome State Fault Refusal :=
  if s.held = false ∧ (s.port n).silenceTimer = true ∧ (s.port n).state = .up then
    .next (((s.leaveFor n .down).countPort n fun k => { k with silences := k.silences + 1 }).tryAlign n)
  else .next s

end Sys2Proof.Machine
end

