-- ==== Sys2Proof/Machine/Update.lean ====
section
/-! DEFINITION. The Update Engine (chapter 3): the batch, the bank-by-bank apply with its edit ops, completion, and the commands
of the apply and of the Hold Queue's drain. -/

namespace Sys2Proof.Machine

/-! ### The batch (R42, R43) -/

/-- The batch ended: state NONE, the staging list empty, abort-pending clear, the commit and the outcomes forgotten, and
the batch id and hold policy kept (R42, R63). -/
def Batch.ended (b : Batch) : Batch :=
  { b with state := .none, staging := [], abortPending := false, commit := none, outcomes := [] }

/-- Discard the batch (R43, R68). -/
def State.discardBatch (s : State) : State := { s with batch := s.batch.ended }

/-- Discard the batch when it is OPEN (R43). -/
def State.discardOpen (s : State) : State := if s.batch.state = .opened then s.discardBatch else s

/-! ### Touched banks and the next edit (R52 to R54) -/

/-- An image falls in a bank (R52). -/
def fallsIn (b : BankId) (i : Image) : Bool := (editOf i).any fun e => decide (e.bank = b)

/-- The banks a staging list touches, in ascending order (R52). -/
def touchedBanks (staging : List Image) : List BankId := allFour.filter fun b => staging.any (fallsIn b)

/-- A set of banks as a mask, bit k for bank k (R64). -/
def bankMask (bs : List BankId) : Byte :=
  allFour.foldl (fun m b => if b ∈ bs then m ||| (1#8 <<< b.val) else m) 0

/-- The bank in progress: the one that is UPDATING. -/
def State.bankInProgress (s : State) : Option BankId := allFour.find? fun b => decide (s.bank b = .updating)

/-- The first edit, in list order, that falls in a bank and has no outcome yet (R54). -/
def firstEdit (b : BankId) (outcomes : List Outcome) (staging : List Image) : Option (Nat × Edit) :=
  staging.zipIdx.findSome? fun x =>
    match editOf x.1 with
    | some e => if e.bank = b ∧ outcomes.all (fun o => decide (o.position ≠ x.2)) = true then some (x.2, e) else none
    | none => none

/-- The next edit of the apply, with its list position. -/
def State.nextEdit (s : State) : Option (Nat × Edit) :=
  if s.held = false ∧ s.batch.state = .applying then
    match s.bankInProgress with
    | some b => firstEdit b s.batch.outcomes s.batch.staging
    | none => none
  else none

/-- Record the outcome of an edit (R52). -/
def State.recordOutcome (s : State) (position tag : Nat) (x : EditOutcome) : State :=
  { s with batch := { s.batch with outcomes := s.batch.outcomes ++ [{ position := position, tag := tag, result := x }] } }

/-! ### Completion and the commit response (R63 to R65) -/

/-- How many edits have an outcome. -/
def countOutcome (os : List Outcome) (x : EditOutcome) : Byte :=
  BitVec.ofNat 8 (os.countP fun o => decide (o.result = x))

/-- The outcomes that the entries name: SKIPPED and FAILED, by ascending list position, the first eight (R64). -/
def responseEntries (n : Nat) (os : List Outcome) : List Outcome :=
  ((List.range n).filterMap fun p => os.find? fun o => decide (o.position = p) && decide (o.result ≠ .applied)).take 8

/-- The four bytes of an entry (R64). -/
def Outcome.bytes (o : Outcome) : List Byte := BitVec.ofNat 8 o.position :: natBytes16 o.tag ++ [o.result.code]

/-- The body of a commit response (R64). -/
def commitBody (b : Batch) (applied : List BankId) (outcomes : List Outcome) : List Byte :=
  let entries := responseEntries b.staging.length outcomes
  [b.id, BitVec.ofNat 8 b.staging.length, bankMask (touchedBanks b.staging), bankMask applied,
   countOutcome outcomes .applied, countOutcome outcomes .skipped, countOutcome outcomes .failed,
   BitVec.ofNat 8 entries.length] ++ entries.flatMap Outcome.bytes

/-- The status of a completed batch of which no bank was cut: OK when every edit of the list was APPLIED (R63). -/
def completionStatus (b : Batch) : Status :=
  if b.outcomes.all fun o => decide (o.result = .applied) then .ok else .partialDone

/-- The end of a committed batch: its response is built, the batch is ended, the response is handed to the Agent, and
the lease logic takes the end of the batch (R63, R66). -/
def State.finishBatch (s : State) (st : Status) (applied : List BankId) (outcomes : List Outcome) : State :=
  let body := commitBody s.batch applied outcomes
  let t := s.discardBatch
  let u := match s.batch.commit with
    | some (o, seq) => t.deliverCommit o seq st body
    | none => t
  u.batchEndSignal

/-- A batch leaves WAITING: the lowest touched bank becomes UPDATING, or an empty batch completes (R53). -/
def State.startApply (s : State) : State :=
  match touchedBanks s.batch.staging with
  | b :: _ => { s with batch := { s.batch with state := .applying } }.setBank b .updating
  | [] => s.finishBatch .ok [] []

/-- A batch that is WAITING leaves WAITING in the handling that leaves the Hold Queue empty (R51). -/
def State.tryStart (s : State) : State :=
  if s.batch.state = .waiting ∧ (s.queue hq).entries = [] then s.startApply else s

/-! ### The edit ops (R55 to R62) -/

/-- The outcome of an edit that was carried out (R55). -/
def outcomeOf (stood : Bool) : EditOutcome := if stood then .applied else .failed

/-- An edit that replaces the whole content: it uses the old revision alone, without evaluating the check (R56). -/
def State.replaceRecord (s : State) (n : Nat) (c : Content) (v : Verify) : State × Bool :=
  s.writeVerified n { c with revision := (s.record n).content.revision + 1 } v

/-- Apply a WRITE or a CLEAR (R57, R58). -/
def State.applyReplace (s : State) (p n : Nat) (c : Content) (v : Verify) : State :=
  let (t, stood) := s.replaceRecord n c v
  t.recordOutcome p n (outcomeOf stood)

/-- Apply an edit that reads the whole old record and decides from its content: a record with a bad check is made FAULTED
and the edit SKIPPED; otherwise `decision` gives the new content, or none for a SKIPPED edit (R13, R56). -/
def State.applyDecided (s : State) (p n : Nat) (decision : Content → Option Content) (v : Verify) : State :=
  let r := s.record n
  if r.good then
    match decision r.content with
    | none => s.recordOutcome p n .skipped
    | some c =>
      let (t, stood) := s.writeVerified n { c with revision := r.content.revision + 1 } v
      t.recordOutcome p n (outcomeOf stood)
  else
    ((s.writeContent n (faultedContent r.content)).hand .updateEngine (tagReport .recordFault n verifyDetail)).recordOutcome
      p n .skipped

/-- What REFILL makes of a record (R59). -/
def refillContent (value : BitVec 16) (c : Content) : Option Content :=
  if c.quota.isSome then
    match c.state with
    | .opened _ | .barred _ => some { c with quota := some value }
    | .spent a => some { c with quota := some value, state := .opened a }
    | .vacant | .faulted _ => none
  else none

/-- What BAR makes of a record (R60). -/
def barContent (c : Content) : Option Content :=
  match c.state with
  | .opened a | .spent a => some { c with state := .barred a }
  | .vacant | .barred _ | .faulted _ => none

/-- What UNBAR makes of a record (R61). -/
def unbarContent (c : Content) : Option Content :=
  match c.state with
  | .barred a => some { c with state := if c.quota = some 0 then .spent a else .opened a }
  | .vacant | .opened _ | .spent _ | .faulted _ => none

/-- The usable record positions of a bank, in ascending order (R1, R62). -/
def bankTags (b : BankId) : List Nat :=
  ((List.range 1024).map fun k => 1024 * b.val + k).filter fun n => decide (n < 4095)

/-- The verify given for a record; one not listed matches at its first verify. -/
def verifyFor (vs : List (UsableTag × Verify)) (n : Nat) : Verify :=
  match vs.find? fun x => decide (x.1.val = n) with
  | some x => x.2
  | none => .stands

/-- Clear records one after another, each with its own write and verify, keeping the lowest tag that failed (R62). -/
def clearRun (vs : List (UsableTag × Verify)) : List Nat → State × Option Nat → State × Option Nat
  | [], x => x
  | n :: rest, (s, failed) =>
    let (t, stood) := s.replaceRecord n Content.cleared (verifyFor vs n)
    clearRun vs rest (t, if stood then failed else some (failed.getD n))

/-- Apply a CLEAR-BANK (R62). -/
def State.applyClearBank (s : State) (p : Nat) (b : BankId) (vs : List (UsableTag × Verify)) : State :=
  match clearRun vs (bankTags b) (s, none) with
  | (t, none) => t.recordOutcome p 0 .applied
  | (t, some n) => t.recordOutcome p n .failed

/-- The bank end (R54). -/
def State.bankEnd (s : State) (b : BankId) : State :=
  let t := s.setBank b .serving
  let touched := touchedBanks s.batch.staging
  match touched.filter fun k => decide (b < k) with
  | k :: _ =>
    if s.batch.abortPending then t.finishBatch .aborted (touched.filter fun k => decide (k ≤ b)) s.batch.outcomes
    else t.setBank k .updating
  | [] => t.finishBatch (completionStatus s.batch) touched s.batch.outcomes

/-! ### The commands -/

/-- APPLY_START (R53). -/
def execApplyStart (s : State) : Host.Outcome State Fault Refusal :=
  if s.held then .next s else .next s.tryStart

/-- WRITE (R57). -/
def execWrite (v : Verify) (s : State) : Host.Outcome State Fault Refusal :=
  match s.nextEdit with
  | some (p, .write t c) => .next (s.applyReplace p t.toNat c v)
  | _ => .next s

/-- CLEAR (R58). -/
def execClear (v : Verify) (s : State) : Host.Outcome State Fault Refusal :=
  match s.nextEdit with
  | some (p, .clear t) => .next (s.applyReplace p t.toNat Content.cleared v)
  | _ => .next s

/-- REFILL (R59). -/
def execRefill (v : Verify) (s : State) : Host.Outcome State Fault Refusal :=
  match s.nextEdit with
  | some (p, .refill t value) => .next (s.applyDecided p t.toNat (refillContent value) v)
  | _ => .next s

/-- BAR (R60). -/
def execBar (v : Verify) (s : State) : Host.Outcome State Fault Refusal :=
  match s.nextEdit with
  | some (p, .bar t) => .next (s.applyDecided p t.toNat barContent v)
  | _ => .next s

/-- UNBAR (R61). -/
def execUnbar (v : Verify) (s : State) : Host.Outcome State Fault Refusal :=
  match s.nextEdit with
  | some (p, .unbar t) => .next (s.applyDecided p t.toNat unbarContent v)
  | _ => .next s

/-- CLEAR_BANK (R62). -/
def execClearBank (vs : List (UsableTag × Verify)) (s : State) : Host.Outcome State Fault Refusal :=
  match s.nextEdit with
  | some (p, .clearBank b) => .next (s.applyClearBank p b vs)
  | _ => .next s

/-- BANK_END (R54): the bank in progress has no edit left. -/
def execBankEnd (s : State) : Host.Outcome State Fault Refusal :=
  if s.held = false ∧ s.batch.state = .applying ∧ s.nextEdit = none then
    match s.bankInProgress with
    | some b => .next (s.bankEnd b)
    | none => .next s
  else .next s

/-- The oldest entry of the Hold Queue whose bank is SERVING, and the entries without it (R39). -/
def takeServing (serving : BankId → Bool) : List Entry → Option (Entry × List Entry)
  | [] => none
  | e :: rest =>
    if serving (bankOf e.cell.tag) then some (e, rest)
    else (takeServing serving rest).map fun x => (x.1, e :: x.2)

/-- HOLD_QUEUE_DRAIN (R39); the drain of the last held cell lets a WAITING batch begin (R51). -/
def execHoldQueueDrain (s : State) : Host.Outcome State Fault Refusal :=
  match s.held, takeServing (fun b => decide (s.bank b = .serving)) (s.queue hq).entries with
  | false, some (e, rest) =>
    .next ((((s.setEntries hq rest).countSteer fun k => { k with drained := k.drained + 1 }).lookup e.cell).tryStart)
  | _, _ => .next s

/-- LEASE_TIMER_EXPIRY (R172). -/
def execLeaseTimerExpiry (s : State) : Host.Outcome State Fault Refusal :=
  match s.held, s.lease with
  | false, .held o _ =>
    match s.batch.state with
    | .none | .opened => .next ({ s.discardOpen with lease := .free }.hand .leaseLogic (leaseLost o 1))
    | .waiting | .applying => .next { s with lease := .overdue o }
  | _, _ => .next s

end Sys2Proof.Machine
end

