-- ==== Sys2Proof/Machine/Requests.lean ====
section
/-! DEFINITION. The requests of the catalogue (R151): what the block named for each makes of it, and the twenty-one request
commands. A handler is reached after the checks of R147; it answers MALFORMED and RANGE with an empty body where the request's
rule states none (log entry 14). -/

namespace Sys2Proof.Machine

/-- A MALFORMED answer, which changes nothing. -/
def malformed (s : State) : State × Reply := (s, .answer .malformed [])

/-- A RANGE answer with an empty body, which changes nothing. -/
def outOfRange (s : State) : State × Reply := (s, .answer .range [])

/-! ### Reading the node -/

/-- Four two-bit codes in one byte, the first in bits 7..6 (R153). -/
def packFour (f : Fin 4 → BitVec 2) : Byte := f 0 ++ f 1 ++ f 2 ++ f 3

/-- The NODE-QUERY body, given the lease seconds remaining (R153). -/
def State.nodeQueryBody (s : State) (leaseSeconds : Nat) : List Byte :=
  0x5E :: bytes16 0x4A16 ++ [Config.siliconRevision] ++ bytes32 s.agent.unitNumber ++
  [s.nodeSource, s.nodeState.code, s.batch.state.code, s.batch.id, BitVec.ofNat 8 s.batch.staging.length,
   policyCode s.batch.policy, originCode s.lease.holder, BitVec.ofNat 8 leaseSeconds,
   packFour fun b => (s.bank b).code, packFour fun n => (s.port n).state.code, s.tin.code,
   if s.agent.lmgt then 0x80 else 0, originCode s.agent.settings.destination,
   (deliveryState s.agent.settings.destination s.notices).code, BitVec.ofNat 8 s.notices.queue.length,
   s.agent.settings.unknownTag.code, s.agent.settings.hopLimit.setWidth 8] ++
  bytes16 s.agent.settings.ackTimeout ++ [s.agent.settings.leasePeriod]

/-- NODE-QUERY (R153). -/
def handleNodeQuery (r : Request) (s : State) : State × Reply :=
  if r.body ≠ [] then malformed s
  else
    let (t, seconds) := s.readLease
    (t, .answer .ok (t.nodeQueryBody seconds))

/-- COUNTERS-READ (R157). -/
def handleCountersRead (r : Request) (s : State) : State × Reply :=
  match r.body with
  | [group, first] =>
    match s.counterGroup group.toNat with
    | none => outOfRange s
    | some cs =>
      if first.toNat < cs.length then
        let page := (cs.drop first.toNat).take 11
        (s, .answer .ok ([group, first, BitVec.ofNat 8 cs.length, BitVec.ofNat 8 page.length] ++ page.flatMap bytes32))
      else outOfRange s
  | _ => malformed s

/-- ENTRY-READ (R71, R72). -/
def handleEntryRead (r : Request) (s : State) : State × Reply :=
  match r.body with
  | [hi, lo] =>
    match tagField (word16 hi lo) with
    | none => outOfRange s
    | some tag =>
      if s.bank (bankOf tag) = .updating then (s, .answer .busy [])
      else
        let c := (s.record tag.toNat).content
        (s, .answer .ok (imageOf tag c ++ bytes32 c.accepted ++ bytes32 c.refused ++ [c.revision]))
  | _ => malformed s

/-- A record is in use: not VACANT as it is stored (R73). -/
def State.inUse (s : State) (n : Nat) : Bool := decide ((s.record n).content.state ≠ .vacant)

/-- The scan from a tag with `fuel` records still to examine and the tags collected so far, latest first: the tags in
ascending order, the next tag, and whether an UPDATING bank stopped it (R73, R74). -/
def scanFrom (s : State) : Nat → Nat → List Nat → List Nat × Nat × Bool
  | 0, _, found => (found.reverse, 4095, false)
  | fuel + 1, n, found =>
    if s.bank (bankOfNat n) = .updating then (found.reverse, 1024 * (n / 1024), true)
    else if s.inUse n then
      if found.length = 23 then ((n :: found).reverse, n + 1, false)
      else scanFrom s fuel (n + 1) (n :: found)
    else scanFrom s fuel (n + 1) found

/-- TABLE-SCAN (R73, R74). -/
def handleTableScan (r : Request) (s : State) : State × Reply :=
  match r.body with
  | [hi, lo] =>
    match tagField (word16 hi lo) with
    | none => outOfRange s
    | some tag =>
      match scanFrom s (4095 - tag.toNat) tag.toNat [] with
      | ([], _, true) => (s, .answer .busy [])
      | (tags, next, _) => (s, .answer .ok (natBytes16 next ++ tags.flatMap natBytes16))
  | _ => malformed s

/-! ### Queues and ports -/

/-- A queue number byte, when it names a queue (R87). -/
def queueOfByte (b : Byte) : Option QueueId := if h : b.toNat < 15 then some ⟨b.toNat, h⟩ else none

/-- The port whose add queue a queue is. -/
def addQueuePort (q : QueueId) : Option PortId :=
  if h : 8 ≤ q.val ∧ q.val < 12 then some ⟨q.val - 8, by omega⟩ else none

/-- QUEUE-QUERY (R87). -/
def handleQueueQuery (r : Request) (s : State) : State × Reply :=
  match r.body with
  | [b] =>
    match queueOfByte b with
    | none => outOfRange s
    | some q =>
      let x := s.queue q
      (s, .answer .ok (b :: natBytes16 x.occupancy ++ natBytes16 x.floor ++ natBytes16 x.ceiling ++
        natBytes16 s.freeSlots ++ natBytes16 s.reserve ++ bytes32 x.admitted ++ bytes32 x.refused ++ bytes32 x.flushed ++
        headBytes x.entries))
  | _ => malformed s

/-- The outstanding add credits that bear on a queue: those of its port, for an add queue (R88). -/
def State.creditsOn (s : State) (q : QueueId) : Nat :=
  match addQueuePort q with
  | some n => (s.port n).addCredits
  | none => 0

/-- A REFUSED answer of QUEUE-SET, with its reason (R88). -/
def State.queueRefused (s : State) (b : Byte) (q : QueueId) (reason : Byte) : State × Reply :=
  (s, .answer .refused ([b, reason] ++ natBytes16 (s.queue q).occupancy ++ natBytes16 s.freeSlots ++ natBytes16 s.reserve ++
    natBytes16 (s.creditsOn q)))

/-- The values of QUEUE-SET are in range for a queue (R88). -/
def queueValuesOk (q : QueueId) (floor ceiling : Nat) : Bool :=
  decide (1 ≤ ceiling) && decide (ceiling ≤ 512) && decide (floor ≤ ceiling) &&
  (decide (q ≠ mqt ∧ q ≠ mql) || decide (2 ≤ floor))

/-- QUEUE-SET (R88, R89). -/
def handleQueueSet (r : Request) (s : State) : State × Reply :=
  match r.body with
  | [b, f1, f0, c1, c0] =>
    match queueOfByte b with
    | none => outOfRange s
    | some q =>
      let floor := (word16 f1 f0).toNat
      let ceiling := if (addQueuePort q).isSome then floor else (word16 c1 c0).toNat
      let x := s.queue q
      let set := s.setQueue q { x with floor := floor, ceiling := ceiling }
      if !queueValuesOk q floor ceiling then outOfRange s
      else if ceiling < x.occupancy then s.queueRefused b q 1
      else if s.freeSlots < set.reserve then s.queueRefused b q 2
      else if (addQueuePort q).isSome ∧ floor < x.occupancy + s.creditsOn q then s.queueRefused b q 3
      else (set, .answer .ok (b :: natBytes16 floor ++ natBytes16 ceiling))
  | _ => malformed s

/-- QUEUE-FLUSH (R90); a flush of the Hold Queue lets a WAITING batch begin (R51). -/
def handleQueueFlush (r : Request) (s : State) : State × Reply :=
  match r.body with
  | [b] =>
    match queueOfByte b with
    | none => outOfRange s
    | some q =>
      let t := s.flush q
      (if q = hq then t.tryStart else t, .answer .ok (b :: natBytes16 (s.queue q).occupancy))
  | _ => malformed s

/-- A port number byte, when it names a port (R137). -/
def portOfByte (b : Byte) : Option PortId := if h : b.toNat < 4 then some ⟨b.toNat, h⟩ else none

/-- The flags byte of PORT-QUERY (R138). -/
def State.portFlags (s : State) (n : PortId) : Byte :=
  (if (s.port n).signal then 0x80 else 0) ||| (if (s.port n).stallReported then 0x40 else 0) |||
  (if (s.port n).alignPending then 0x20 else 0) ||| (if n = 0 ∧ s.agent.lmgt = true then 0x10 else 0)

/-- PORT-QUERY (R138). -/
def handlePortQuery (r : Request) (s : State) : State × Reply :=
  match r.body with
  | [b] =>
    match portOfByte b with
    | none => outOfRange s
    | some n =>
      let p := s.port n
      (s, .answer .ok ([b, p.state.code.setWidth 8, s.portFlags n, p.token, BitVec.ofNat 8 p.dropCredit] ++
        natBytes16 p.addCredits ++ natBytes16 (s.grantable n) ++
        [p.ctr.arrivals, p.ctr.dataReceived, p.ctr.cellsSent, p.ctr.addRefused, p.ctr.creditViolations, p.ctr.linkErrors,
         p.ctr.linkIgnored, p.ctr.upsLost, p.ctr.silences, p.ctr.notUp].flatMap bytes32))
  | _ => malformed s

/-- Disable a port that is not OFF (R137): it leaves its state for OFF and its transmitter stops. -/
def State.disablePort (s : State) (n : PortId) : State := (s.leaveFor n .off).onPort n fun p => { p with sending := none }

/-- Enable a port that is OFF (R137). -/
def State.enablePort (s : State) (n : PortId) : State := (s.movePort n .down).tryAlign n

/-- PORT-SET (R137). -/
def handlePortSet (r : Request) (s : State) : State × Reply :=
  match r.body with
  | [b, setting] =>
    match portOfByte b with
    | none => outOfRange s
    | some n =>
      let off := decide ((s.port n).state = .off)
      if 1 < setting.toNat then outOfRange s
      else
        let t := if setting = 0 then (if off then s else s.disablePort n) else if off then s.enablePort n else s
        (t, .answer .ok [b, (t.port n).state.code.setWidth 8])
  | _ => malformed s

/-! ### The node -/

/-- The unknown-tag action of a NODE-SET byte (R154). -/
def actionOfSetting (b : Byte) : UnknownAction := if b = 0 then .pass else .sink

/-- The destination of a NODE-SET byte (R154). -/
def destinationOfByte (b : Byte) : Option Origin :=
  if b = 255 then none else if b = 254 then some .localMgr else some (.trunk b)

/-- The first selected field of a NODE-SET that is out of range, by its mask bit (R154). -/
def nodeSetFault (lmgt : Bool) (mask act hop dest : Byte) (ack : BitVec 16) (lease : Byte) : Option Byte :=
  if mask.getLsbD 0 = true ∧ 1 < act.toNat then some 0
  else if mask.getLsbD 1 = true ∧ ¬(1 ≤ hop.toNat ∧ hop.toNat ≤ 15) then some 1
  else if mask.getLsbD 2 = true ∧ dest = 254 ∧ lmgt = false then some 2
  else if mask.getLsbD 3 = true ∧ ¬(10 ≤ ack.toNat ∧ ack.toNat ≤ 1000) then some 3
  else if mask.getLsbD 4 = true ∧ lease = 0 then some 4
  else none

/-- The settings with the selected fields changed (R154). -/
def Settings.changed (x : Settings) (mask act hop dest : Byte) (ack : BitVec 16) (lease : Byte) : Settings :=
  { unknownTag := if mask.getLsbD 0 then actionOfSetting act else x.unknownTag
    hopLimit := if mask.getLsbD 1 then hop.setWidth 4 else x.hopLimit
    destination := if mask.getLsbD 2 then destinationOfByte dest else x.destination
    ackTimeout := if mask.getLsbD 3 then ack else x.ackTimeout
    leasePeriod := if mask.getLsbD 4 then lease else x.leasePeriod }

/-- The settings as bytes 1 to 6 of the NODE-SET layout (R154). -/
def Settings.bytes (x : Settings) : List Byte :=
  [x.unknownTag.code, x.hopLimit.setWidth 8, originCode x.destination] ++ bytes16 x.ackTimeout ++ [x.leasePeriod]

/-- NODE-SET (R154): a selected destination is told to the Notice Unit (R185). -/
def handleNodeSet (r : Request) (s : State) : State × Reply :=
  match r.body with
  | [mask, act, hop, dest, a1, a0, lease] =>
    match nodeSetFault s.agent.lmgt mask act hop dest (word16 a1 a0) lease with
    | some bit => (s, .answer .range [bit])
    | none =>
      let settings := s.agent.settings.changed mask act hop dest (word16 a1 a0) lease
      let t := { s with agent := { s.agent with settings := settings } }
      (if mask.getLsbD 2 then t.destinationSelected else t, .answer .ok settings.bytes)
  | _ => malformed s

/-- Every counter of COUNTERS-CLEAR and of step 6 of NODE-RESET set to 0 (R159, R195). -/
def State.clearCounters (s : State) : State :=
  { s with
    rx := {}
    steer := {}
    sched := {}
    agentCtr := {}
    noticeCtr := {}
    ports := mapFour (fun p => { p with ctr := {} }) s.ports
    queues := mapFifteen (fun q => { q with admitted := 0, refused := 0, flushed := 0 }) s.queues }

/-- COUNTERS-CLEAR (R159). -/
def handleCountersClear (r : Request) (s : State) : State × Reply :=
  if r.body ≠ [] then malformed s else (s.clearCounters, .answer .ok [])

/-- The banks that are UPDATING return to SERVING (R68). -/
def State.stopBanks (s : State) : State := { s with banks := mapFour (fun b => if b = .updating then .serving else b) s.banks }

/-- A port that is not OFF moves to DOWN, and on to ALIGNING when its signal is present (R140). -/
def State.resetPort (s : State) (n : PortId) : State :=
  ((if (s.port n).state = .off then s else s.leaveFor n .down).onPort n fun p => { p with stallReported := false }).tryAlign n

/-- All fifteen queues flushed (R92). -/
def allQueues : List QueueId := [0, 1, 2, 3, 4, 5, 6, 7, 8, 9, 10, 11, 12, 13, 14]

/-- At a NODE-RESET, every request that an origin has had executed becomes one whose repeat is a new request, but for the
NODE-RESET itself (R164, R197, log entry 28). -/
def OriginPast.atReset (p : OriginPast) (o : Origin) (seq : BitVec 16) : OriginPast :=
  let own (x : BitVec 16) : Bool := decide (p.origin = o) && decide (x = seq)
  { p with
    since := (p.since ++ p.anew).filter own
    anew := (p.since ++ p.anew).filter fun x => !own x
    reset := if p.origin = o then some seq else none }

/-- The steps of NODE-RESET, in order, but for the response (R195). -/
def State.nodeReset (s : State) (r : Request) : State :=
  let s1 := s.stopBanks.discardBatch
  let s2 := { s1 with lease := .free }
  let s3 := { s2 with notices := { Notices.reset with nextNumber := s2.notices.nextNumber } }
  let s4 := allQueues.foldl State.flush s3
  let s5 := allFour.foldl State.resetPort s4
  let s6 := s5.clearCounters
  { s6 with
    agent := { s6.agent with
      origins := [{ origin := r.origin, lastSeq := r.seq, resp := .pending, owed := none }]
      past := s6.agent.past.map (·.atReset r.origin r.seq) } }

/-- The NODE-RESET response body: the node as the request found it (R194). -/
def State.nodeResetBody (s : State) : List Byte :=
  let applying := decide (s.batch.state = .applying)
  [s.batch.state.code, s.batch.id,
   match applying, s.bankInProgress with
   | true, some b => BitVec.ofNat 8 b.val
   | _, _ => 255] ++
  natBytes16 (usedSlots s.queues) ++ [if applying then BitVec.ofNat 8 s.batch.outcomes.length else 0]

/-- NODE-RESET (R194, R195). -/
def handleNodeReset (r : Request) (s : State) : State × Reply :=
  if r.body ≠ [] then malformed s else (s.nodeReset r, .reset s.nodeResetBody)

/-- ASSIGN-ADDRESS (R155). -/
def handleAssignAddress (r : Request) (s : State) : State × Reply :=
  match r.body with
  | [a, _, _, _, _] =>
    if 253 < a.toNat then outOfRange s
    else if word32At r.body 1 ≠ s.agent.unitNumber then (s, .answer .notUnnumbered [])
    else ({ s with agent := { s.agent with address := some a } }, .answer .ok r.body)
  | _ => malformed s

/-! ### The batch requests -/

/-- The batch state and id, as BUSY and NO-BATCH answers give them (R44, R45, R48). -/
def Batch.stateAndId (b : Batch) : List Byte := [b.state.code, b.id]

/-- BATCH-OPEN (R44). -/
def handleBatchOpen (r : Request) (s : State) : State × Reply :=
  match r.body with
  | [id, code] =>
    match policyOfCode code with
    | none => outOfRange s
    | some policy =>
      if id = 0 then outOfRange s
      else
        match s.batch.state with
        | .none =>
          ({ s with batch := { s.batch with state := .opened, id := id, policy := some policy, staging := [] } },
            .answer .ok [id, code])
        | .opened => (s, .answer .batchOpen [s.batch.id, BitVec.ofNat 8 s.batch.staging.length])
        | .waiting | .applying => (s, .answer .busy s.batch.stateAndId)
  | _ => malformed s

/-- The position of the first invalid image (R45). -/
def firstInvalid (images : List Image) : Option Nat := images.findIdx? fun i => (editOf i).isNone

/-- BATCH-EDIT (R45 to R47). -/
def handleBatchEdit (r : Request) (s : State) : State × Reply :=
  let n := r.body.length
  if ¬(n = 13 ∨ n = 25 ∨ n = 37 ∨ n = 49) then malformed s
  else if s.batch.state ≠ .opened ∨ byteAt r.body 0 ≠ s.batch.id then (s, .answer .noBatch s.batch.stateAndId)
  else
    match firstInvalid (imagesOf r.body) with
    | some k => (s, .answer .range [BitVec.ofNat 8 k])
    | none =>
      let staging := s.batch.staging ++ imagesOf r.body
      if 64 < staging.length then (s, .answer .full [BitVec.ofNat 8 s.batch.staging.length])
      else
        ({ s with batch := { s.batch with staging := staging } },
          .answer .ok [s.batch.id, BitVec.ofNat 8 staging.length])

/-- BATCH-COMMIT (R48, R50, R51): an accepted commit leaves no response, and its origin's entry becomes pending. -/
def handleBatchCommit (r : Request) (s : State) : State × Reply :=
  match r.body with
  | [id, count, d1, d0] =>
    match s.batch.state with
    | .waiting | .applying => (s, .answer .busy s.batch.stateAndId)
    | .none => (s, .answer .noBatch s.batch.stateAndId)
    | .opened =>
      if id ≠ s.batch.id then (s, .answer .noBatch s.batch.stateAndId)
      else if count.toNat ≠ s.batch.staging.length then (s, .answer .count [BitVec.ofNat 8 s.batch.staging.length])
      else if word16 d1 d0 ≠ digestOf s.batch.staging then (s, .answer .digest (bytes16 (digestOf s.batch.staging)))
      else
        let t := { s with batch := { s.batch with state := .waiting, commit := some (r.origin, r.seq) } }
        let u := t.onEntry r.origin fun e => { e with resp := .pending, owed := some r.seq }
        (u.tryStart, .accepted)
  | _ => malformed s

/-- BATCH-ABORT (R66): every response body, that of MALFORMED too, is the batch id and the batch state. -/
def handleBatchAbort (r : Request) (s : State) : State × Reply :=
  match r.body with
  | [id] =>
    if id ≠ s.batch.id ∨ id = 0 then (s, .answer .noBatch [s.batch.id, s.batch.state.code])
    else
      match s.batch.state with
      | .none => (s, .answer .noBatch [s.batch.id, s.batch.state.code])
      | .opened => (s.discardBatch, .answer .ok [id, BatchState.none.code])
      | .waiting => (s.finishBatch .aborted [] [], .answer .ok [id, BatchState.none.code])
      | .applying =>
        ({ s with batch := { s.batch with abortPending := true } }, .answer .ok [id, BatchState.applying.code])
  | _ => (s, .answer .malformed [s.batch.id, s.batch.state.code])

/-! ### The lease requests -/

/-- The body of an OK answer to LEASE-TAKE (R167). -/
def State.leaseTaken (s : State) (o : Origin) (how : Byte) : State × Reply :=
  (s.leaseTo o, .answer .ok [o.code, s.agent.settings.leasePeriod, how])

/-- LEASE-TAKE (R167, R168). -/
def handleLeaseTake (r : Request) (s : State) : State × Reply :=
  match r.body with
  | [force] =>
    if 1 < force.toNat then outOfRange s
    else
      match s.lease.holder with
      | none => s.leaseTaken r.origin 0
      | some o =>
        if o = r.origin then s.leaseTaken r.origin 1
        else if force = 0 then
          let (t, seconds) := s.readLease
          (t, .answer .heldByOther [o.code, BitVec.ofNat 8 seconds])
        else if s.batch.state = .waiting ∨ s.batch.state = .applying then (s, .answer .busy s.batch.stateAndId)
        else (s.discardOpen.hand .leaseLogic (leaseLost o 2)).leaseTaken r.origin 2
  | _ => malformed s

/-- LEASE-RENEW (R169). -/
def handleLeaseRenew (r : Request) (s : State) : State × Reply :=
  if r.body ≠ [] then malformed s
  else if s.lease.holder = some r.origin then (s.leaseTo r.origin, .answer .ok [s.agent.settings.leasePeriod])
  else (s, .answer .notHolder [originCode s.lease.holder])

/-- LEASE-GIVE (R171). -/
def handleLeaseGive (r : Request) (s : State) : State × Reply :=
  if r.body ≠ [] then malformed s
  else if s.lease.holder ≠ some r.origin then (s, .answer .notHolder [originCode s.lease.holder])
  else
    match s.batch.state with
    | .waiting | .applying => (s, .answer .busy s.batch.stateAndId)
    | .opened => ({ s.discardBatch with lease := .free }, .answer .ok [1])
    | .none => ({ s with lease := .free }, .answer .ok [0])

/-! ### The commands -/

/-- UNKNOWN_REQUEST (R147): the code is outside the catalogue, so the checks of R147 answer it. -/
def execUnknownRequest (s : State) : Host.Outcome State Fault Refusal :=
  .next (s.takeRequest (fun b => !catalogue.contains b) fun _ t => (t, .answer .unknown []))

/-- NODE_QUERY (R153). -/
def execNodeQuery (s : State) : Host.Outcome State Fault Refusal := .next (s.takeRequest (isCode 0x01) handleNodeQuery)

/-- COUNTERS_READ (R157). -/
def execCountersRead (s : State) : Host.Outcome State Fault Refusal := .next (s.takeRequest (isCode 0x02) handleCountersRead)

/-- ENTRY_READ (R71). -/
def execEntryRead (s : State) : Host.Outcome State Fault Refusal := .next (s.takeRequest (isCode 0x03) handleEntryRead)

/-- TABLE_SCAN (R73). -/
def execTableScan (s : State) : Host.Outcome State Fault Refusal := .next (s.takeRequest (isCode 0x04) handleTableScan)

/-- QUEUE_QUERY (R87). -/
def execQueueQuery (s : State) : Host.Outcome State Fault Refusal := .next (s.takeRequest (isCode 0x05) handleQueueQuery)

/-- PORT_QUERY (R138). -/
def execPortQuery (s : State) : Host.Outcome State Fault Refusal := .next (s.takeRequest (isCode 0x06) handlePortQuery)

/-- NODE_SET (R154). -/
def execNodeSet (s : State) : Host.Outcome State Fault Refusal := .next (s.takeRequest (isCode 0x10) handleNodeSet)

/-- QUEUE_SET (R88). -/
def execQueueSet (s : State) : Host.Outcome State Fault Refusal := .next (s.takeRequest (isCode 0x11) handleQueueSet)

/-- QUEUE_FLUSH (R90). -/
def execQueueFlush (s : State) : Host.Outcome State Fault Refusal := .next (s.takeRequest (isCode 0x12) handleQueueFlush)

/-- PORT_SET (R137). -/
def execPortSet (s : State) : Host.Outcome State Fault Refusal := .next (s.takeRequest (isCode 0x13) handlePortSet)

/-- COUNTERS_CLEAR (R159). -/
def execCountersClear (s : State) : Host.Outcome State Fault Refusal := .next (s.takeRequest (isCode 0x14) handleCountersClear)

/-- NODE_RESET (R195). -/
def execNodeReset (s : State) : Host.Outcome State Fault Refusal := .next (s.takeRequest (isCode 0x15) handleNodeReset)

/-- ASSIGN_ADDRESS (R155). -/
def execAssignAddress (s : State) : Host.Outcome State Fault Refusal := .next (s.takeRequest (isCode 0x16) handleAssignAddress)

/-- BATCH_OPEN (R44). -/
def execBatchOpen (s : State) : Host.Outcome State Fault Refusal := .next (s.takeRequest (isCode 0x20) handleBatchOpen)

/-- BATCH_EDIT (R45). -/
def execBatchEdit (s : State) : Host.Outcome State Fault Refusal := .next (s.takeRequest (isCode 0x21) handleBatchEdit)

/-- BATCH_COMMIT (R48). -/
def execBatchCommit (s : State) : Host.Outcome State Fault Refusal := .next (s.takeRequest (isCode 0x22) handleBatchCommit)

/-- BATCH_ABORT (R66). -/
def execBatchAbort (s : State) : Host.Outcome State Fault Refusal := .next (s.takeRequest (isCode 0x23) handleBatchAbort)

/-- LEASE_TAKE (R167). -/
def execLeaseTake (s : State) : Host.Outcome State Fault Refusal := .next (s.takeRequest (isCode 0x30) handleLeaseTake)

/-- LEASE_RENEW (R169). -/
def execLeaseRenew (s : State) : Host.Outcome State Fault Refusal := .next (s.takeRequest (isCode 0x31) handleLeaseRenew)

/-- LEASE_GIVE (R171). -/
def execLeaseGive (s : State) : Host.Outcome State Fault Refusal := .next (s.takeRequest (isCode 0x32) handleLeaseGive)

end Sys2Proof.Machine
end

