-- ==== Sys2Proof/Machine/Reset.lean ====
section
/-! DEFINITION. Hardware reset, its end, the start-up clear, and the damage of a stored record (chapter 10, R10, R14). -/

namespace Sys2Proof.Machine

/-- At hardware reset, the NODE-RESET that the node has last executed becomes a request whose repeat is a new one (R193), with
those that were so before; the other requests executed are forgotten with the origin table (log entry 28). -/
def OriginPast.atHardwareReset (p : OriginPast) : OriginPast :=
  { p with since := [], anew := p.reset.toList ++ p.anew, reset := none }

/-- HARDWARE_RESET (R193): every item of state takes its value after hardware reset; the stored content of the records
and the unit number are not changed (R19, R152). -/
def execHardwareReset (s : State) : Host.Outcome State Fault Refusal :=
  .next (State.inReset s.table s.agent.unitNumber (s.agent.past.map OriginPast.atHardwareReset) s.draws s.pending)

/-- The address a strapped value gives (R100, R190). -/
def addressOfStraps (naddr : Byte) : Option Byte := if naddr.toNat ≤ 253 then some naddr else none

/-- HARDWARE_RESET_END (R190): the straps are sampled and bank 0 becomes CLEARING at once (R16). -/
def execHardwareResetEnd (naddr : Byte) (lmgt : Bool) (s : State) : Host.Outcome State Fault Refusal :=
  if s.held then
    .next ({ s with
      held := false
      clearNext := 0
      agent := { s.agent with address := addressOfStraps naddr, lmgt := lmgt } }.setBank 0 .clearing)
  else .next s

/-- RECORD_DAMAGE (R10): the stored content is altered without a write, so its check is not good. Content that differs
in no part alters nothing. -/
def execRecordDamage (tag : UsableTag) (content : Content) (s : State) : Host.Outcome State Fault Refusal :=
  if content = (s.record tag.val).content then .next s
  else .next (s.setRecord tag.val { content := content, good := false })

/-- The move to READY: each DOWN port whose signal is present enters ALIGNING (R192). -/
def State.becomeReady (s : State) : State := allFour.foldl State.tryAlign { s with nodeState := .ready }

/-- The last usable tag of a bank (R1). -/
def lastTag (b : BankId) : Nat := min 4094 (1024 * b.val + 1023)

/-- The bank end of the start-up clear: the bank becomes SERVING and the next CLEARING, or the node READY (R191). -/
def State.clearBankEnd (s : State) (b : BankId) : State :=
  let t := s.setBank b .serving
  if b.val < 3 then t.setBank (b + 1) .clearing else t.becomeReady

/-- START_UP_CLEAR (R191): one record is written with the cleared content and verified. -/
def execStartUpClear (v : Verify) (s : State) : Host.Outcome State Fault Refusal :=
  let b := bankOfNat s.clearNext
  if s.held = false ∧ s.nodeState = .starting ∧ s.clearNext < 4095 ∧ s.bank b = .clearing then
    let t := (s.writeVerified s.clearNext Content.cleared v).1
    let u := { t with clearNext := s.clearNext + 1 }
    .next (if s.clearNext = lastTag b then u.clearBankEnd b else u)
  else .next s

end Sys2Proof.Machine
end

