-- ==== Sys2Proof/Machine/Trunk.lean ====
section
/-! DEFINITION. The trunk (chapter 5): the TIN link and its receive checks, the routing of management cells, and the Trunk
Scheduler's choice at a TOUT opportunity. -/

namespace Sys2Proof.Machine

/-! ### TIN (R93, R94) -/

/-- The TIN link changes state and reports it (R93). -/
def State.moveTin (s : State) (x : TinState) : State :=
  { s with tin := x }.hand .trunkReceiver { type := .trunkChange, subject := 0, detail := .code x.code }

/-- TIN_SIGNAL_PRESENT (R93). -/
def execTinSignalPresent (s : State) : Host.Outcome State Fault Refusal :=
  if s.held = false ∧ s.tin = .silent then .next (s.moveTin .active) else .next s

/-- TIN_SIGNAL_LOST (R93, R94): `begun` says that an arrival had begun and not completed. -/
def execTinSignalLost (begun : Bool) (s : State) : Host.Outcome State Fault Refusal :=
  if s.held = false ∧ s.tin = .active then
    .next ((s.countRx fun c =>
      { c with
        truncated := if begun then c.truncated + 1 else c.truncated
        signalLosses := c.signalLosses + 1 }).moveTin .silent)
  else .next s

/-! ### Arrivals (R96 to R104) -/

/-- A DATA cell by the node state: handed to steering, or the start-up bypass (R98). -/
def State.trunkData (s : State) (c : Cell) : State :=
  match s.nodeState with
  | .ready => (s.countRx fun k => { k with dataReceived := k.dataReceived + 1 }).steerTrunk c
  | .starting =>
    if c.hop = 0 then s.countRx fun k => { k with bypassExpired := k.bypassExpired + 1 }
    else (s.countRx fun k => { k with bypassed := k.bypassed + 1 }).offer (tq c.cls) c.hopped .trunk

/-- What becomes of a MGMT cell at the Trunk Receiver. -/
inductive Routing where
  | orphan
  | consumed
  | transit (mismatch : Bool)
  deriving DecidableEq, Repr

/-- The routing of a well-formed MGMT cell by the addressing state (R101 to R104). `mismatch` marks an ASSIGN-ADDRESS
passed on because its unit number is another's (R103). -/
def Agent.route (a : Agent) (c : Cell) : Routing :=
  match a.address with
  | some addr =>
    if c.sourceByte = addr ∧ c.destination ≠ addr then .orphan
    else if c.destination = addr then .consumed
    else .transit false
  | none =>
    if c.destination = 254 then
      if c.code = 0x16 ∧ word32At c.payload 9 ≠ a.unitNumber then .transit true else .consumed
    else .transit false

/-- A well-formed MGMT cell (R101 to R104). -/
def State.trunkMgmt (s : State) (c : Cell) : State :=
  match s.agent.route c with
  | .orphan => s.countRx fun k => { k with orphans := k.orphans + 1 }
  | .consumed =>
    (s.countRx fun k => { k with mgmtConsumed := k.mgmtConsumed + 1 }).giveAgent { fromLocal := false, cell := c }
  | .transit mismatch =>
    if c.hop = 0 then s.countRx fun k => { k with mgmtExpired := k.mgmtExpired + 1 }
    else
      (s.countRx fun k =>
        { k with
          mgmtTransit := k.mgmtTransit + 1
          assignPassed := if mismatch then k.assignPassed + 1 else k.assignPassed }).offer (tq c.cls) c.hopped .trunk

/-- A well-formed cell by its kind (R97, R98, section 5.4); a LINK cell fails the kind check. -/
def State.onTrunkCell (s : State) (c : Cell) : State :=
  match c.kind with
  | .idle => s.countRx fun k => { k with idlesReceived := k.idlesReceived + 1 }
  | .data => s.trunkData c
  | .mgmt => s.trunkMgmt c
  | .link => s

/-- A completed arrival on TIN passes the five receive checks and is handled (R96). -/
def State.trunkArrive (s : State) (bytes : List Byte) : State :=
  let s := s.countRx fun k => { k with arrivals := k.arrivals + 1 }
  let c := cellOfBytes bytes
  if bytes.length ≠ 64 then s.countRx fun k => { k with framing := k.framing + 1 }
  else if !hcsMatches bytes then s.countRx fun k => { k with hcs := k.hcs + 1 }
  else if c.kind = .link then s.countRx fun k => { k with kind := k.kind + 1 }
  else if 58 < c.len.toNat then s.countRx fun k => { k with length := k.length + 1 }
  else if tagKindWrong c then s.countRx fun k => { k with tagKind := k.tagKind + 1 }
  else s.onTrunkCell c

/-- TIN_ARRIVAL (R96). While TIN is SILENT no arrival begins (R94). -/
def execTinArrival (bytes : List Byte) (s : State) : Host.Outcome State Fault Refusal :=
  if s.held = false ∧ s.tin = .active then .next (s.trunkArrive bytes) else .next s

/-! ### The TOUT opportunity (R107 to R113) -/

/-- The queue at a position of a class's rotation (R110). -/
def rotationQueue (c : ClassId) (i : Fin 5) : QueueId :=
  if h : i.val = 0 then tq c else aq ⟨i.val - 1, by omega⟩

/-- The candidate at a position of a class's rotation: a head of TQc, or an unmarked add-queue head of class c (R108,
R110). -/
def State.candidate (s : State) (c : ClassId) (i : Fin 5) : Option Entry :=
  match (s.queue (rotationQueue c i)).entries with
  | [] => none
  | e :: _ =>
    if i.val = 0 then some e
    else if e.marked = false ∧ e.cell.cls = c then some e
    else none

/-- The positions of a rotation from a pointer on, in the cyclic order (R110). -/
def rotationFrom (p : Fin 5) : List (Fin 5) := [p, p + 1, p + 2, p + 3, p + 4]

/-- The winner of a class's rotation: its position and its cell's entry (R110). -/
def State.rotationWinner (s : State) (c : ClassId) : Option (Fin 5 × Entry) :=
  (rotationFrom s.rotation[c]).findSome? fun i => (s.candidate c i).map fun e => (i, e)

/-- What an opportunity sends. -/
inductive Choice where
  | management (e : Entry)
  | rotation (c : ClassId) (i : Fin 5) (e : Entry)
  | idle
  deriving DecidableEq, Repr

/-- The choice among the candidates: the highest class, MQT first within class 3, then rotation (R109). -/
def State.choose (s : State) : Choice :=
  match (s.queue mqt).entries with
  | e :: _ => .management e
  | [] =>
    match ([3, 2, 1, 0] : List ClassId).findSome? fun c => (s.rotationWinner c).map fun x => (c, x) with
    | some (c, i, e) => .rotation c i e
    | none => .idle

/-- A cell is taken from its queue and sent on TOUT (R111, R113). -/
def State.sendOut (s : State) (q : QueueId) (e : Entry) : State :=
  { (s.dropHead q).countSched fun k => { k with cellsSent := k.cellsSent + 1 } with tout := some e.cell.frame }

/-- Take and send what was chosen; the pointer of a class that chose by rotation moves past the winner (R110 to R112). -/
def State.sendChoice (s : State) : Choice → State
  | .management e => s.sendOut mqt e
  | .rotation c i e =>
    let t := s.sendOut (rotationQueue c i) e
    { t with rotation := t.rotation.set c.val (i + 1) c.isLt }
  | .idle => { s.countSched fun k => { k with idlesSent := k.idlesSent + 1 } with tout := some idleCell.frame }

/-- TOUT_OPPORTUNITY (R107). -/
def execToutOpportunity (order : List PortId) (s : State) : Host.Outcome State Fault Refusal :=
  if s.held then .next s
  else
    let t := s.allDeferred order
    .next (t.sendChoice t.choose)

end Sys2Proof.Machine
end

