-- ==== Sys2Proof/Machine/Dispatch.lean ====
section
/-! DEFINITION. The one match over the commands: each arm is one direct call of the command's meaning. -/

namespace Sys2Proof.Machine

/-- The effect of a command on everything but the queue of waiting commands. -/
def exec (i : Instr) (s : State) : Host.Outcome State Fault Refusal :=
  match i with
  | .hardwareReset => Sys2Proof.Machine.execHardwareReset s
  | .hardwareResetEnd naddr lmgt => Sys2Proof.Machine.execHardwareResetEnd naddr lmgt s
  | .recordDamage tag content => Sys2Proof.Machine.execRecordDamage tag content s
  | .tinSignalPresent => Sys2Proof.Machine.execTinSignalPresent s
  | .tinSignalLost begun => Sys2Proof.Machine.execTinSignalLost begun s
  | .tinArrival bytes => Sys2Proof.Machine.execTinArrival bytes s
  | .unknownRequest => Sys2Proof.Machine.execUnknownRequest s
  | .nodeQuery => Sys2Proof.Machine.execNodeQuery s
  | .countersRead => Sys2Proof.Machine.execCountersRead s
  | .entryRead => Sys2Proof.Machine.execEntryRead s
  | .tableScan => Sys2Proof.Machine.execTableScan s
  | .queueQuery => Sys2Proof.Machine.execQueueQuery s
  | .portQuery => Sys2Proof.Machine.execPortQuery s
  | .nodeSet => Sys2Proof.Machine.execNodeSet s
  | .queueSet => Sys2Proof.Machine.execQueueSet s
  | .queueFlush => Sys2Proof.Machine.execQueueFlush s
  | .portSet => Sys2Proof.Machine.execPortSet s
  | .countersClear => Sys2Proof.Machine.execCountersClear s
  | .nodeReset => Sys2Proof.Machine.execNodeReset s
  | .assignAddress => Sys2Proof.Machine.execAssignAddress s
  | .batchOpen => Sys2Proof.Machine.execBatchOpen s
  | .batchEdit => Sys2Proof.Machine.execBatchEdit s
  | .batchCommit => Sys2Proof.Machine.execBatchCommit s
  | .batchAbort => Sys2Proof.Machine.execBatchAbort s
  | .leaseTake => Sys2Proof.Machine.execLeaseTake s
  | .leaseRenew => Sys2Proof.Machine.execLeaseRenew s
  | .leaseGive => Sys2Proof.Machine.execLeaseGive s
  | .noticeAck => Sys2Proof.Machine.execNoticeAck s
  | .applyStart => Sys2Proof.Machine.execApplyStart s
  | .write v => Sys2Proof.Machine.execWrite v s
  | .clear v => Sys2Proof.Machine.execClear v s
  | .refill v => Sys2Proof.Machine.execRefill v s
  | .bar v => Sys2Proof.Machine.execBar v s
  | .unbar v => Sys2Proof.Machine.execUnbar v s
  | .clearBank vs => Sys2Proof.Machine.execClearBank vs s
  | .bankEnd => Sys2Proof.Machine.execBankEnd s
  | .startUpClear v => Sys2Proof.Machine.execStartUpClear v s
  | .toutOpportunity order => Sys2Proof.Machine.execToutOpportunity order s
  | .holdQueueDrain => Sys2Proof.Machine.execHoldQueueDrain s
  | .portSignalPresent n => Sys2Proof.Machine.execPortSignalPresent n s
  | .portSignalLost n begun => Sys2Proof.Machine.execPortSignalLost n begun s
  | .portArrival n bytes => Sys2Proof.Machine.execPortArrival n bytes s
  | .align n => Sys2Proof.Machine.execAlign n s
  | .alignAck n token => Sys2Proof.Machine.execAlignAck n token s
  | .credit n amount => Sys2Proof.Machine.execCredit n amount s
  | .portOpportunity n => Sys2Proof.Machine.execPortOpportunity n s
  | .resendTimerExpiry n => Sys2Proof.Machine.execResendTimerExpiry n s
  | .stallTimerExpiry n => Sys2Proof.Machine.execStallTimerExpiry n s
  | .silenceTimeout n => Sys2Proof.Machine.execSilenceTimeout n s
  | .ackTimerExpiry => Sys2Proof.Machine.execAckTimerExpiry s
  | .leaseTimerExpiry => Sys2Proof.Machine.execLeaseTimerExpiry s
  | .eventReport b => Sys2Proof.Machine.execEventReport b s

end Sys2Proof.Machine
end

