-- ==== Sys2Proof/Safety.lean ====
section
/-! DEFINITION. What a safe run is, and the laws of the device that claims are stated in: the sentences of the spec that begin
'the law of ... is this'. -/

namespace Sys2Proof.Machine

/-- A run of `k` steps that none stops. -/
def SafeRun (k : Nat) (s : State) : Prop := ∃ t, Host.Core.run Sys2Proof.core k s = .next t

/-! ### The buffer and the queues (R75, R78, R79, R81) -/

/-- The law of the buffer (R75). -/
def BufferLaw (s : State) : Prop := s.freeSlots + usedSlots s.queues = 512

/-- The law of the reserve (R79). -/
def ReserveLaw (s : State) : Prop := s.reserve ≤ s.freeSlots

/-- The ranges of the floors and ceilings, and the law of the ceilings (R78). -/
def CeilingLaw (s : State) : Prop :=
  (∀ q : QueueId, (s.queue q).floor ≤ (s.queue q).ceiling ∧ 1 ≤ (s.queue q).ceiling ∧ (s.queue q).ceiling ≤ 512 ∧
    (s.queue q).occupancy ≤ (s.queue q).ceiling) ∧
  2 ≤ (s.queue mqt).floor ∧ 2 ≤ (s.queue mql).floor ∧
  ∀ n : PortId, (s.queue (aq n)).ceiling = (s.queue (aq n)).floor

/-- The law of the add queues (R81). -/
def AddQueueLaw (s : State) : Prop :=
  ∀ n : PortId, (s.queue (aq n)).occupancy + (s.port n).addCredits ≤ (s.queue (aq n)).floor

/-- The law of the port credits (R126). -/
def PortCreditLaw (s : State) : Prop :=
  ∀ n : PortId, ((s.port n).state ≠ .up → (s.port n).dropCredit = 0 ∧ (s.port n).addCredits = 0) ∧
    (s.port n).dropCredit ≤ 255

/-- What goes with the state of a port: ALIGN pending, the resend timer and the stall timer belong to ALIGNING alone, where
the resend timer always runs and the stall timer runs until the stall is reported; the silence timer runs exactly in UP; a
port is ALIGNING or UP only with its signal present; and every port is DOWN while the node is STARTING (R118 to R126, R133). -/
def PortTimerLaw (s : State) : Prop :=
  ∀ n : PortId,
    ((s.port n).resendTimer = true ↔ (s.port n).state = .aligning) ∧
    ((s.port n).alignPending = true → (s.port n).state = .aligning) ∧
    ((s.port n).stallTimer = true ↔ (s.port n).state = .aligning ∧ (s.port n).stallReported = false) ∧
    ((s.port n).silenceTimer = true ↔ (s.port n).state = .up) ∧
    (((s.port n).state = .aligning ∨ (s.port n).state = .up) → (s.port n).signal = true) ∧
    (s.nodeState = .starting → (s.port n).state = .down)

/-- The laws of the buffer, the reserve, the ceilings, the add queues, the port credits and the port timers together. -/
def QueueLaws (s : State) : Prop :=
  BufferLaw s ∧ ReserveLaw s ∧ CeilingLaw s ∧ AddQueueLaw s ∧ PortCreditLaw s ∧ PortTimerLaw s

/-! ### The batch, the lease and the origin table (R42, R143, R165) -/

/-- The law of the staging list (R42). -/
def StagingLaw (s : State) : Prop := s.batch.staging.length ≤ 64 ∧ (s.batch.state = .none → s.batch.staging = [])

/-- A batch is committed: WAITING or APPLYING. -/
def Batch.committed (b : Batch) : Prop := b.state = .waiting ∨ b.state = .applying

/-- The commit that is owed belongs to the lease holder, and there is one exactly while a batch is committed (R42, R43). -/
def CommitLaw (s : State) : Prop :=
  (s.batch.committed → ∃ o seq, s.batch.commit = some (o, seq) ∧ s.lease.holder = some o) ∧
  (¬s.batch.committed → s.batch.commit = none)

/-- The law of the lease: the batch state is other than NONE only while some origin holds the lease (R165). -/
def LeaseLaw (s : State) : Prop := s.batch.state ≠ .none → s.lease.holder ≠ none

/-- The law of the origin table: at most 8 entries, no two for the same origin; an entry owes a commit exactly where the
commit of the batch is its origin's, which is the lease holder's; and its response state is PENDING exactly when the commit it
owes is its last sequence (R143). -/
def OriginTableLaw (s : State) : Prop :=
  s.agent.origins.length ≤ 8 ∧ (s.agent.origins.map OriginEntry.origin).Nodup ∧
  (∀ e ∈ s.agent.origins, ∀ seq, e.owed = some seq → s.batch.committed ∧ s.batch.commit = some (e.origin, seq)) ∧
  (∀ o seq, s.batch.commit = some (o, seq) → ∃ e ∈ s.agent.origins, e.origin = o ∧ e.owed = some seq) ∧
  ∀ e ∈ s.agent.origins, e.resp = .pending ↔ e.owed = some e.lastSeq

/-- The laws of the commit, the lease and the origin table together. -/
def OwnershipLaws (s : State) : Prop := CommitLaw s ∧ LeaseLaw s ∧ OriginTableLaw s

/-- The ranges of the settings, and of the time that a running lease timer has left (R152, R166). -/
def SettingsLaw (s : State) : Prop :=
  s.agent.settings.hopLimit ≠ 0 ∧ 10 ≤ s.agent.settings.ackTimeout.toNat ∧ s.agent.settings.ackTimeout.toNat ≤ 1000 ∧
  s.agent.settings.leasePeriod ≠ 0 ∧ ∀ o n, s.lease = .held o n → 1 ≤ n ∧ n ≤ 255

/-! ### The banks (R16) -/

/-- The bank states that go with where the node stands: UNREADY while held in reset, one bank CLEARING in the start-up
clear, one UPDATING in an apply, and SERVING otherwise (R15, R16, R191). -/
def BankLaws (s : State) : Prop :=
  if s.held = true then s.nodeState = .starting ∧ s.batch.state = .none ∧ ∀ b, s.bank b = .unready
  else
    match s.nodeState with
    | .starting =>
      s.batch.state = .none ∧ s.clearNext < 4095 ∧
      ∀ b, s.bank b =
        if b < bankOfNat s.clearNext then .serving else if b = bankOfNat s.clearNext then .clearing else .unready
    | .ready =>
      if s.batch.state = .applying then ∃ b, s.bank b = .updating ∧ ∀ k, k ≠ b → s.bank k = .serving
      else ∀ b, s.bank b = .serving

/-- The law of the banks: at most one bank is UPDATING or CLEARING (R16). -/
def OneBankLaw (s : State) : Prop :=
  ∀ b k : BankId, (s.bank b = .updating ∨ s.bank b = .clearing) → (s.bank k = .updating ∨ s.bank k = .clearing) → b = k

/-! ### The records (R9) -/

/-- The quota and the state of a record agree (R9). -/
def quotaAgrees (c : Content) : Prop :=
  match c.state with
  | .spent _ => c.quota = some 0
  | .opened _ => c.quota ≠ some 0
  | .vacant | .barred _ | .faulted _ => True

/-- The law of R9, for every record with a good check. -/
def QuotaLaw (s : State) : Prop := ∀ n, (s.record n).good = true → quotaAgrees (s.record n).content

/-- The table holds its canonical form, and no queue from which a cell can still be looked up holds the management tag. -/
def TableLaw (s : State) : Prop :=
  tableWf s.table = true ∧
  (∀ e ∈ (s.queue hq).entries, e.cell.tag ≠ mgmtTag) ∧
  ∀ n : PortId, ∀ e ∈ (s.queue (aq n)).entries, e.cell.tag ≠ mgmtTag

/-- The laws of the table and of its records together. -/
def RecordLaws (s : State) : Prop := TableLaw s ∧ QuotaLaw s

/-! ### The notice queue (R176) -/

/-- The law of the notice queue: at most 16 entries; only the oldest may be AWAITING; and no two UNSENT entries share
both type and subject; with the ranges of the counts (R176). -/
def NoticeQueueLaw (s : State) : Prop :=
  s.notices.queue.length ≤ 16 ∧
  (∀ e ∈ s.notices.queue.tail, e.awaiting = false) ∧
  ((s.notices.queue.filter fun e => !e.awaiting).map fun e => (e.type, e.subject)).Nodup ∧
  (∀ e ∈ s.notices.queue, 1 ≤ e.repeats ∧ e.repeats ≤ 255) ∧ s.notices.lost ≤ 65535 ∧ s.notices.retry ≤ 4

/-- The oldest entry is AWAITING. -/
def Notices.awaitingOldest (n : Notices) : Prop := ∃ e, n.queue.head? = some e ∧ e.awaiting = true

/-- The law of delivery: while the destination is set and the unreachable flag clear the oldest entry is never UNSENT; the
ack timer runs exactly while delivery is AWAITING; and the flag is set only with a destination and an AWAITING entry (R180). -/
def DeliveryLaw (s : State) : Prop :=
  (s.agent.settings.destination ≠ none → s.notices.unreachable = false → s.notices.queue = [] ∨ s.notices.awaitingOldest) ∧
  (s.notices.ackTimer ≠ none ↔
    s.agent.settings.destination ≠ none ∧ s.notices.unreachable = false ∧ s.notices.awaitingOldest) ∧
  (s.notices.unreachable = true → s.agent.settings.destination ≠ none ∧ s.notices.awaitingOldest)

/-- The laws of the notice queue and of delivery together. -/
def NoticeLaw (s : State) : Prop := NoticeQueueLaw s ∧ DeliveryLaw s

/-! ### Counters (R106, R158, R187) -/

/-- Every completed arrival on TIN is counted by exactly one of the thirteen counters of R106. -/
def ArrivalCountLaw (s : State) : Prop :=
  s.rx.arrivals = s.rx.framing + s.rx.hcs + s.rx.kind + s.rx.length + s.rx.tagKind + s.rx.idlesReceived +
    s.rx.dataReceived + s.rx.bypassed + s.rx.bypassExpired + s.rx.mgmtConsumed + s.rx.mgmtTransit + s.rx.mgmtExpired +
    s.rx.orphans

/-- Every management cell that the Agent has dealt with is counted by exactly one of the counters at indices 1 to 8 of
R158. -/
def RequestCountLaw (s : State) : Prop :=
  s.agentCtr.requestsConsumed = s.agentCtr.notRequest + s.agentCtr.badSource + s.agentCtr.acksForwarded +
    s.agentCtr.startingAnswered + s.agentCtr.executed + s.agentCtr.repeatsAnswered + s.agentCtr.repeatsDropped +
    s.agentCtr.stale

/-- The laws of the counters together. -/
def CountLaws (s : State) : Prop := ArrivalCountLaw s ∧ RequestCountLaw s

/-! ### Arrivals and cells (R96, R128, R142) -/

/-- The arrival passes the four checks of a tributary (R128). -/
def portWellFormed (bytes : List Byte) : Bool :=
  decide (bytes.length = 64) && hcsMatches bytes && decide ((cellOfBytes bytes).len.toNat ≤ 58) &&
  !tagKindWrong (cellOfBytes bytes)

/-- The arrival passes the five checks of the trunk (R96). -/
def trunkWellFormed (bytes : List Byte) : Bool :=
  portWellFormed bytes && !decide ((cellOfBytes bytes).kind = .link)

/-- The Trunk Receiver takes an arrival that is the well-formed cell `c`. -/
def TrunkTakes (s : State) (bytes : List Byte) (c : Cell) : Prop :=
  s.held = false ∧ s.tin = .active ∧ trunkWellFormed bytes = true ∧ cellOfBytes bytes = c

/-- Port n takes an arrival that is the well-formed cell `c`. -/
def PortTakes (s : State) (n : PortId) (bytes : List Byte) (c : Cell) : Prop :=
  s.portTakes n = true ∧ portWellFormed bytes = true ∧ cellOfBytes bytes = c

/-! ### What a request does (R147 to R149, R170) -/

/-- The command of each request of the catalogue, with its code (R151). -/
def requestCommands : List (Instr × Byte) :=
  [(.nodeQuery, 0x01), (.countersRead, 0x02), (.entryRead, 0x03), (.tableScan, 0x04), (.queueQuery, 0x05),
   (.portQuery, 0x06), (.nodeSet, 0x10), (.queueSet, 0x11), (.queueFlush, 0x12), (.portSet, 0x13),
   (.countersClear, 0x14), (.nodeReset, 0x15), (.assignAddress, 0x16), (.batchOpen, 0x20), (.batchEdit, 0x21),
   (.batchCommit, 0x22), (.batchAbort, 0x23), (.leaseTake, 0x30), (.leaseRenew, 0x31), (.leaseGive, 0x32)]

/-- The Agent has a request of this code first in its hands, and is to execute it. -/
def Takes (s : State) (m : HandCell) (rest : List HandCell) (code : Byte) : Prop :=
  s.held = false ∧ s.agent.hands = m :: rest ∧ s.verdict m = .execute ∧ m.cell.code = code

/-- The request passes the checks of R147 and so reaches the block that its code names. -/
def Reaches (s : State) (m : HandCell) : Prop :=
  m.cell.bodyMisfits = false ∧ s.accessRefused m.origin m.cell.code = false ∧
  (s.needsLease m.cell.code = true → s.lease.holder = some m.origin)

/-- What no request changes beyond its own effect. `e` is the state with that effect alone. Left out are the items the
frame of every request changes: the origin table and the origins' past, the cells in the Agent's hands, the agent counters,
the lease, the notice retries with the Notice Unit's counters, and the entries that the two management queues gain at their
tails. -/
structure RequestFrame (e t : State) : Prop where
  held : t.held = e.held
  nodeState : t.nodeState = e.nodeState
  tin : t.tin = e.tin
  rx : t.rx = e.rx
  table : t.table = e.table
  banks : t.banks = e.banks
  clearNext : t.clearNext = e.clearNext
  steer : t.steer = e.steer
  batch : t.batch = e.batch
  rotation : t.rotation = e.rotation
  sched : t.sched = e.sched
  tout : t.tout = e.tout
  ports : t.ports = e.ports
  address : t.agent.address = e.agent.address
  unitNumber : t.agent.unitNumber = e.agent.unitNumber
  lmgt : t.agent.lmgt = e.agent.lmgt
  settings : t.agent.settings = e.agent.settings
  noticeQueue : t.notices.queue = e.notices.queue
  noticeNumber : t.notices.nextNumber = e.notices.nextNumber
  lost : t.notices.lost = e.notices.lost
  handed : t.handed = e.handed
  draws : t.draws = e.draws
  pending : t.pending = e.pending
  queues : ∀ q : QueueId, q ≠ mqt → q ≠ mql → t.queue q = e.queue q
  floors : ∀ q : QueueId, (t.queue q).floor = (e.queue q).floor ∧ (t.queue q).ceiling = (e.queue q).ceiling ∧
    (t.queue q).flushed = (e.queue q).flushed
  tails : ∀ q : QueueId, (e.queue q).entries <+: (t.queue q).entries

/-- The origin's entry holds this response as the answer to the request, but for an entry whose last sequence is that of the
commit it owes (R143, log entry 27), and its queue was offered the response as the effect left it (R147 to R149). -/
structure Answered (e t : State) (r : Request) (st : Status) (body : List Byte) : Prop where
  entry : ∃ x, t.entryOf r.origin = some x ∧ x.lastSeq = r.seq ∧
    x.resp = if x.owed = some r.seq then .pending else .cached (t.response r.origin r.seq r.code st body)
  sent : e.admits (mgmtQueue r.origin) = true →
    (e.queue (mgmtQueue r.origin)).entries ++
        [{ cell := t.response r.origin r.seq r.code st body, source := .agent, marked := false }] <+:
      (t.queue (mgmtQueue r.origin)).entries

/-- A request was served: it took the effect that `e` has, was answered with this status and body, changed nothing
else, and, where it needed the lease, renewed it for a requester that holds it still (R170). -/
structure Served (leased : Bool) (e t : State) (r : Request) (st : Status) (body : List Byte) : Prop where
  answered : Answered e t r st body
  frame : RequestFrame e t
  lease : t.lease = if leased = true ∧ e.lease.holder = some r.origin then (e.leaseTo r.origin).lease else e.lease

/-- What executing the request first in the Agent's hands leaves, when its block has the effect `effect` and gives this
answer: the request is entered, takes its effect and is answered, the lease logic and the Notice Unit are told of it, and the
Agent then deals with the cells that waited behind it (R142, R144, R147). -/
def State.served (s : State) (leased : Bool) (effect : State → State) (st : Status) (body : List Byte) : State :=
  match s.agent.hands with
  | [] => s
  | m :: rest =>
    settleHands rest ((effect (s.entered m rest)).concluded leased m.request (.answer st body))

/-- The command completes, with the request served in this way: the state it leaves is exactly that one, and of it holds
what `Served` says. -/
def Serves (i : Instr) (s : State) (leased : Bool) (effect : State → State) (r : Request) (st : Status)
    (body : List Byte) : Prop :=
  exec i s = .next (s.served leased effect st body) ∧ Served leased (effect s) (s.served leased effect st body) r st body

end Sys2Proof.Machine
end

