-- ==== Sys2Proof/WellFormed.lean ====
section
/-! DEFINITION. Which commands are well formed: the checks on operands that their types do not already make. -/

namespace Sys2Proof

/-- An arrival begins with its first byte, so it has one (R94). -/
def arrivalWf (bytes : List Byte) : Bool := !bytes.isEmpty

/-- A rewrite tag that is present is a circuit tag, 0..4094 (R2). -/
def Content.rewriteWf (c : Content) : Bool := c.rewrite.all fun t => decide (t.toNat ≤ 4094)

/-- A verify reads back content whose rewrite tag, when present, is in its range. -/
def Verify.wf : Verify → Bool
  | .stands | .rewritten => true
  | .fails c => c.rewriteWf

/-- The verifies of a CLEAR-BANK name each record at most once (R62). -/
def verifiesWf (vs : List (UsableTag × Verify)) : Bool :=
  decide (vs.map Prod.fst).Nodup && vs.all fun v => v.2.wf

/-- The well-formed commands. -/
def Instr.wf : Instr → Bool
  | .recordDamage _ c => c.rewriteWf
  | .tinArrival bytes => arrivalWf bytes
  | .portArrival _ bytes => arrivalWf bytes
  | .write v => v.wf
  | .clear v => v.wf
  | .refill v => v.wf
  | .bar v => v.wf
  | .unbar v => v.wf
  | .clearBank vs => verifiesWf vs
  | .startUpClear v => v.wf
  | .hardwareReset | .hardwareResetEnd _ _ | .tinSignalPresent | .tinSignalLost _ | .unknownRequest | .nodeQuery
  | .countersRead | .entryRead | .tableScan | .queueQuery | .portQuery | .nodeSet | .queueSet | .queueFlush | .portSet
  | .countersClear | .nodeReset | .assignAddress | .batchOpen | .batchEdit | .batchCommit | .batchAbort | .leaseTake
  | .leaseRenew | .leaseGive | .noticeAck | .applyStart | .bankEnd | .toutOpportunity _ | .holdQueueDrain
  | .portSignalPresent _ | .portSignalLost _ _ | .align _ | .alignAck _ _ | .credit _ _ | .portOpportunity _
  | .resendTimerExpiry _ | .stallTimerExpiry _ | .silenceTimeout _ | .ackTimerExpiry | .leaseTimerExpiry
  | .eventReport _ => true

end Sys2Proof
end

