-- ==== Sys2Proof/Certificates/Slice0/Obligations.lean ====
section
/-! DEFINITION. The statements for the provers: the laws that every step keeps, the formats, and what each command does. -/

section Statements

open Sys2Proof Sys2Proof.Machine

/-! ### The queue of commands, and the laws of the device -/

/-- A step takes the command at the front of the queue and is that command's `exec` on the state with the queue's rest; on an
empty queue it answers the state as it is (the model's form of a block, log entry 15). -/
def Obligations.StepTakesTheFrontCommand : Prop :=
  (∀ (c : Instr) (rest : List Instr) (s : State),
    step { s with pending := c :: rest } = exec c { s with pending := rest }) ∧
  ∀ s : State, s.pending = [] → step s = .next s

/-- No command stops the machine: every command answers a next state, and every run of every length goes on. Where the happening
that a command names cannot occur in the present state, and on an empty queue, that the answer is a next state is the model's
choice (log entries 2 and 15). -/
def Obligations.EveryRunGoesOn : Prop :=
  (∀ (c : Instr) (s : State), ∃ t, exec c s = .next t) ∧ ∀ (k : Nat) (s : State), SafeRun k s

/-- The state after reset meets every law of the device (R92, R152, R165, R188, R193). The clause on the records rests on the
cleared records that the model names at power-up, of which the spec gives no content (the model's choice, log entry 12). -/
def Obligations.ResetMeetsEveryLaw : Prop :=
  QueueLaws State.reset ∧ StagingLaw State.reset ∧ OwnershipLaws State.reset ∧ SettingsLaw State.reset ∧
  BankLaws State.reset ∧ RecordLaws State.reset ∧ NoticeLaw State.reset ∧ CountLaws State.reset

/-- The laws of the buffer, the reserve, the ceilings, the add queues, the port credits and what goes with each port state (ALIGN
pending, the align timers, the silence timer, the signal) are kept by every step (R75, R78, R79, R81, R118 to R122, R125, R126,
R133). -/
def Obligations.EveryStepKeepsTheQueueLaws : Prop :=
  ∀ s t : State, QueueLaws s → step s = .next t → QueueLaws t

/-- The laws of the staging list, of the lease, of the origin table, of the commit that is owed and of the settings are kept by
every step; among them that an entry is PENDING exactly when the commit it owes is its last sequence (R42, R143, R152, R165, R166). -/
def Obligations.EveryStepKeepsTheBatchAndLeaseLaws : Prop :=
  ∀ s t : State, StagingLaw s → OwnershipLaws s → SettingsLaw s → step s = .next t →
    StagingLaw t ∧ OwnershipLaws t ∧ SettingsLaw t

/-- The bank states stay those that go with the node state and the batch state, whatever step is taken, so at most one bank
is UPDATING or CLEARING at any time (R15, R16). -/
def Obligations.EveryStepKeepsTheBankLaws : Prop :=
  ∀ s t : State, BankLaws s → step s = .next t → BankLaws t ∧ OneBankLaw t

/-- The canonical form of the table, and the law that quota and state of every sound record agree, are kept by every step
(R1, R9). -/
def Obligations.EveryStepKeepsTheRecordLaws : Prop :=
  ∀ s t : State, RecordLaws s → step s = .next t → RecordLaws t

/-- The law of the notice queue and the law of delivery are kept by every step: while the destination is set and the unreachable
flag is clear the oldest entry is never UNSENT, and the ack timer runs exactly while delivery is AWAITING (R176, R180). -/
def Obligations.EveryStepKeepsTheNoticeLaw : Prop :=
  ∀ s t : State, NoticeLaw s → step s = .next t → NoticeLaw t

/-- Every arrival on TIN is counted by exactly one of the thirteen receiver counters, and every management cell by exactly
one of the eight agent counters, whatever step is taken; the counters wrap together (R106, R158). -/
def Obligations.EveryStepKeepsTheCountLaws : Prop :=
  ∀ s t : State, CountLaws s → step s = .next t → CountLaws t

/-! ### Formats -/

/-- A cell parses back from the 64 bytes in which it is sent, with a matching HCS; and the bytes of any arrival of 64 bytes
are those of its cell, but for byte 5. The bytes sent are written out field by field, and the HCS bit by bit (R95, R113, R160). -/
def Obligations.FramesParseBack : Prop :=
  (∀ c : Cell, c.payload.length = 58 →
    c.frame.length = 64 ∧ hcsMatches c.frame = true ∧ cellOfBytes c.frame = c) ∧
  (∀ bs : List Byte, bs.length = 64 → (cellOfBytes bs).frame = bs.set 5 (hcsOf (bs.take 5))) ∧
  (∀ c : Cell,
    let header : List Byte :=
      [c.tag.extractLsb' 4 8,
       c.tag.extractLsb' 0 4 ++ (match c.kind with | .data => 0#2 | .mgmt => 1#2 | .idle => 2#2 | .link => 3#2) ++
         BitVec.ofFin (w := 2) c.cls,
       c.seq, c.hop ++ BitVec.ofBool c.last ++ c.spare, c.len ++ c.spareLen]
    c.frame = header ++ [hcsOf header] ++ c.payload) ∧
  ∀ header : List Byte,
    hcsOf header =
      (header.flatMap fun b => (List.range 8).map fun k => b.getLsbD (7 - k)).foldl
        (fun (r : Byte) bit => if r.msb = bit then r <<< 1 else (r <<< 1) ^^^ 0x07#8) 0x00#8

/-- The image that ENTRY-READ returns, written out field by field, and, given op 1, staged as a WRITE: it gives the same content
when the record is OPEN or BARRED with a quota other than 0, and is refused otherwise (R46, R57, R72). -/
def Obligations.EntryImagesStageBack : Prop :=
  ∀ (tag : Tag) (c : Content), tag.toNat ≤ 4094 → c.rewriteWf = true →
    let state : BitVec 3 :=
      match c.state with | .vacant => 0 | .opened _ => 1 | .spent _ => 2 | .barred _ => 3 | .faulted _ => 4
    let action : BitVec 2 × BitVec 2 :=
      match c.state with
      | .vacant | .faulted none => (0, 0)
      | .opened a | .spent a | .barred a | .faulted (some a) =>
        match a with
        | .pass => (0, 0) | .drop n => (1, BitVec.ofFin n) | .tap n => (2, BitVec.ofFin n) | .sink => (3, 0)
    imageOf tag c =
      [0x00] ++ bytes16 (tag.setWidth 16) ++
      [state ++ action.1 ++ 0#1 ++ action.2,
       0#2 ++ BitVec.ofBool c.quota.isSome ++ BitVec.ofBool c.stamp.isSome ++ BitVec.ofBool c.expected.isSome ++
         BitVec.ofBool c.source.isSome ++ BitVec.ofBool c.classOv.isSome ++ BitVec.ofBool c.rewrite.isSome] ++
      bytes16 ((c.rewrite.getD 0).setWidth 16) ++
      [BitVec.ofFin (w := 2) (c.classOv.getD 0) ++ BitVec.ofFin (w := 2) (c.source.getD 0) ++ 0#4, c.expected.getD 0,
       c.stamp.getD 0] ++ bytes16 (c.quota.getD 0) ∧
    (imageOf tag c).length = 12 ∧ (imageOf tag c).head? = some 0 ∧
    editOf (1 :: (imageOf tag c).tail) =
      match c.state with
      | .opened _ | .barred _ =>
        if c.quota = some 0 then none else some (.write tag { c with accepted := 0, refused := 0, revision := 0 })
      | .vacant | .spent _ | .faulted _ => none

/-- Which images BATCH-EDIT admits: the six ops, each with its fields in range, each image checked by itself. The bits and bytes
that an op does not use are ignored: two images that agree in the others stage the same edit. They are covered by the digest,
which is written out bit by bit over every byte of every image (R46). -/
def Obligations.ImageValidity : Prop :=
  (∀ i : Image, (editOf i).isSome = true ↔
    ((1 ≤ (byteAt i 0).toNat ∧ (byteAt i 0).toNat ≤ 5 ∧ (word16At i 1).toNat ≤ 4094) ∧
      (byteAt i 0 = 1 →
        ((byteAt i 3).extractLsb' 5 3 = 1 ∨ (byteAt i 3).extractLsb' 5 3 = 3) ∧
        ((byteAt i 4).getLsbD 0 = true → (word16At i 5).toNat ≤ 4094) ∧
        ((byteAt i 4).getLsbD 5 = true → 1 ≤ (word16At i 10).toNat)) ∧
      (byteAt i 0 = 3 → 1 ≤ (word16At i 10).toNat)) ∨
    (byteAt i 0 = 6 ∧ (word16At i 1).toNat ≤ 3)) ∧
  (∀ i j : Image, byteAt i 0 = byteAt j 0 → word16At i 1 = word16At j 1 →
    let flag (k : Nat) : Prop := (byteAt i 4).getLsbD k = true
    (byteAt i 0 ≠ 1 → byteAt i 0 ≠ 3 → editOf i = editOf j) ∧
    (byteAt i 0 = 3 → word16At i 10 = word16At j 10 → editOf i = editOf j) ∧
    (byteAt i 0 = 1 → (byteAt i 3).extractLsb' 3 5 = (byteAt j 3).extractLsb' 3 5 →
      (((byteAt i 3).extractLsb' 3 2 = 1 ∨ (byteAt i 3).extractLsb' 3 2 = 2) →
        (byteAt i 3).extractLsb' 0 2 = (byteAt j 3).extractLsb' 0 2) →
      (byteAt i 4).extractLsb' 0 6 = (byteAt j 4).extractLsb' 0 6 →
      (flag 0 → word16At i 5 = word16At j 5) →
      (flag 1 → (byteAt i 7).extractLsb' 6 2 = (byteAt j 7).extractLsb' 6 2) →
      (flag 2 → (byteAt i 7).extractLsb' 4 2 = (byteAt j 7).extractLsb' 4 2) →
      (flag 3 → byteAt i 8 = byteAt j 8) → (flag 4 → byteAt i 9 = byteAt j 9) →
      (flag 5 → word16At i 10 = word16At j 10) → editOf i = editOf j)) ∧
  ∀ images : List Image, digestOf images =
    (images.flatten.flatMap fun b => (List.range 8).map fun k => b.getLsbD (7 - k)).foldl
      (fun (x : BitVec 16) bit => if x.msb = bit then x <<< 1 else (x <<< 1) ^^^ 0x1021#16) 0xFFFF#16

/-! ### Hardware reset and the start-up clear -/

/-- HARDWARE_RESET, whatever is under way: every item takes its value after hardware reset, and the stored records, the unit
number and the commands that wait are not changed (R19, R42, R69, R92, R110, R118, R152, R165, R188, R193). That the node
stands unnumbered with LMGT low until the straps are sampled is the model's choice (log entry 1), and the `past`, by which a
repeat of the last NODE-RESET is then a new request, is the model's own item (log entry 28). -/
def Obligations.HardwareResetTakesEveryDefault : Prop :=
  ∀ s : State, ∃ t, exec .hardwareReset s = .next t ∧
    t.held = true ∧ t.nodeState = .starting ∧ t.tin = .silent ∧ (∀ b, t.bank b = .unready) ∧
    t.batch.state = .none ∧ t.batch.id = 0 ∧ t.batch.policy = none ∧ t.batch.staging = [] ∧
    t.batch.abortPending = false ∧ t.batch.commit = none ∧ t.batch.outcomes = [] ∧
    (∀ q, (t.queue q).entries = [] ∧ (t.queue q).admitted = 0 ∧ (t.queue q).refused = 0 ∧ (t.queue q).flushed = 0) ∧
    (∀ c : ClassId, (t.queue (tq c)).floor = 16 ∧ (t.queue (tq c)).ceiling = 128) ∧
    (∀ n : PortId, (t.queue (dq n)).floor = 16 ∧ (t.queue (dq n)).ceiling = 64 ∧
      (t.queue (aq n)).floor = 16 ∧ (t.queue (aq n)).ceiling = 16) ∧
    (t.queue hq).floor = 8 ∧ (t.queue hq).ceiling = 32 ∧ (t.queue mqt).floor = 8 ∧ (t.queue mqt).ceiling = 16 ∧
    (t.queue mql).floor = 4 ∧ (t.queue mql).ceiling = 8 ∧ t.reserve = 212 ∧ t.freeSlots = 512 ∧
    (∀ c : ClassId, t.rotation[c] = 0) ∧
    (∀ n : PortId, (t.port n).state = .down ∧ (t.port n).signal = false ∧ (t.port n).token = 0 ∧
      (t.port n).alignPending = false ∧ (t.port n).resendTimer = false ∧ (t.port n).stallTimer = false ∧
      (t.port n).stallReported = false ∧ (t.port n).silenceTimer = false ∧ (t.port n).dropCredit = 0 ∧
      (t.port n).addCredits = 0 ∧ (t.port n).ctr = {} ∧ (t.port n).sending = none) ∧
    t.tout = none ∧ t.rx = {} ∧ t.steer = {} ∧ t.sched = {} ∧ t.agentCtr = {} ∧ t.noticeCtr = {} ∧
    t.agent.address = none ∧ t.agent.lmgt = false ∧ t.agent.unitNumber = s.agent.unitNumber ∧
    t.agent.settings = { unknownTag := .pass, hopLimit := 15, destination := none, ackTimeout := 100, leasePeriod := 10 } ∧
    t.agent.origins = [] ∧ t.agent.hands = [] ∧ t.lease = .free ∧
    t.agent.past =
      (s.agent.past.map fun p => { p with since := [], anew := p.reset.toList ++ p.anew, reset := none }) ∧
    t.notices = { queue := [], nextNumber := 0, lost := 0, retry := 0, ackTimer := none, unreachable := false } ∧
    t.handed = [] ∧ t.table = s.table ∧ t.draws = s.draws ∧ t.pending = s.pending

/-- HARDWARE_RESET_END samples the straps and begins the start-up clear with bank 0 (R16, R190). -/
def Obligations.HardwareResetEndSamplesTheStraps : Prop :=
  ∀ (naddr : Byte) (lmgt : Bool) (s : State), s.held = true →
    exec (.hardwareResetEnd naddr lmgt) s = .next
      { s with
        held := false
        clearNext := 0
        banks := s.banks.set 0 .clearing
        agent := { s.agent with
          address := if naddr.toNat ≤ 253 then some naddr else none
          lmgt := lmgt } }

/-- RECORD_DAMAGE alters the stored content of one usable record, whose check is then not good, and nothing else (R10). -/
def Obligations.RecordDamageSpoilsTheCheck : Prop :=
  ∀ (tag : UsableTag) (content : Content) (s : State), tableWf s.table = true →
    content ≠ (s.record tag.val).content →
    ∃ t, exec (.recordDamage tag content) s = .next t ∧
      t.record tag.val = { content := content, good := false } ∧
      (∀ n, n ≠ tag.val → t.record n = s.record n) ∧ t = { s with table := t.table }

/-- START_UP_CLEAR within a bank: the next record is written with the cleared content, or left FAULTED and reported when its
verify fails twice, and the clear goes on with the next tag (R14, R19, R191). -/
def Obligations.StartUpClearWritesTheNextRecord : Prop :=
  ∀ (v : Verify) (s : State), s.held = false → s.nodeState = .starting → s.clearNext < 4094 →
    s.bank (bankOfNat s.clearNext) = .clearing → s.clearNext % 1024 ≠ 1023 →
    ∃ t, exec (.startUpClear v) s = .next t ∧ t.clearNext = s.clearNext + 1 ∧
      match v with
      | .stands | .rewritten =>
        t = { s with
          table := tableWrite s.table s.clearNext { content := Content.cleared, good := true }
          clearNext := s.clearNext + 1 }
      | .fails read =>
        t = { s with
          table := tableWrite s.table s.clearNext
            { content := { read with state := .faulted (stateAction read.state) }, good := true }
          clearNext := s.clearNext + 1
          handed := s.handed ++ [{ block := .updateEngine, report :=
            { type := .recordFault, subject := BitVec.ofNat 16 s.clearNext, detail := .code 2 } }] }

/-- START_UP_CLEAR at the last record of a bank: the record is written, or left FAULTED and reported when its verify fails twice, as
within a bank; the bank becomes SERVING and the next CLEARING in the same handling; at tag 4094 the node becomes READY and each
DOWN port with its signal present enters ALIGNING with its next token, and reports it, in ascending port order (R14, R19, R120,
R127, R191, R192). -/
def Obligations.StartUpClearEndsABank : Prop :=
  ∀ (v : Verify) (s : State), s.held = false → s.nodeState = .starting → s.clearNext < 4095 →
    s.bank (bankOfNat s.clearNext) = .clearing →
    let written : State :=
      match v with
      | .stands | .rewritten =>
        { s with
          table := tableWrite s.table s.clearNext { content := Content.cleared, good := true }
          clearNext := s.clearNext + 1 }
      | .fails read =>
        { s with
          table := tableWrite s.table s.clearNext
            { content := { read with state := .faulted (stateAction read.state) }, good := true }
          clearNext := s.clearNext + 1
          handed := s.handed ++ [{ block := .updateEngine, report :=
            { type := .recordFault, subject := BitVec.ofNat 16 s.clearNext, detail := .code 2 } }] }
    (∀ b : BankId, s.clearNext = 1024 * b.val + 1023 → b.val < 3 →
      ∃ t, exec (.startUpClear v) s = .next t ∧ t.bank b = .serving ∧ t.bank (b + 1) = .clearing ∧
        (∀ k, k ≠ b → k ≠ b + 1 → t.bank k = s.bank k) ∧ t = { written with banks := t.banks }) ∧
    (s.clearNext = 4094 →
      let aligns (n : PortId) : Prop := (s.port n).state = .down ∧ (s.port n).signal = true
      ∃ t, exec (.startUpClear v) s = .next t ∧ t.bank 3 = .serving ∧ (∀ k, k ≠ 3 → t.bank k = s.bank k) ∧
        (∀ n : PortId,
          (aligns n →
            t.port n =
              { s.port n with
                state := .aligning
                token := (s.port n).token + 1
                alignPending := true
                resendTimer := true
                stallTimer := true
                stallReported := false }) ∧
          (¬aligns n → t.port n = s.port n)) ∧
        t = { written with
          nodeState := .ready
          banks := t.banks
          ports := t.ports
          handed := written.handed ++
            (([0, 1, 2, 3] : List PortId).filter fun n => decide (aligns n)).map fun n =>
              { block := .port n, report :=
                { type := .linkChange, subject := BitVec.ofNat 16 n.val, detail := .code 2 } } })

/-! ### The trunk -/

/-- TIN_SIGNAL_PRESENT and TIN_SIGNAL_LOST by the TIN state, with the TRUNK-CHANGE report, the loss counter and the truncated
arrival (R93, R94). -/
def Obligations.TinFollowsItsSignal : Prop :=
  ∀ (begun : Bool) (s : State), s.held = false →
    (s.tin = .silent →
      exec .tinSignalPresent s = .next
        { s with
          tin := .active
          handed := s.handed ++
            [{ block := .trunkReceiver, report := { type := .trunkChange, subject := 0, detail := .code 1 } }] } ∧
      exec (.tinSignalLost begun) s = .next s) ∧
    (s.tin = .active →
      exec .tinSignalPresent s = .next s ∧
      exec (.tinSignalLost begun) s = .next
        { s with
          tin := .silent
          rx := { s.rx with
            truncated := if begun = true then s.rx.truncated + 1 else s.rx.truncated
            signalLosses := s.rx.signalLosses + 1 }
          handed := s.handed ++
            [{ block := .trunkReceiver, report := { type := .trunkChange, subject := 0, detail := .code 0 } }] })

/-- TIN_ARRIVAL: every arrival is counted, and the first of the five checks that fails discards it under its own counter; a
well-formed IDLE cell is discarded and counted (R96, R97). -/
def Obligations.TrunkReceiveChecks : Prop :=
  ∀ (bytes : List Byte) (s : State), s.held = false → s.tin = .active →
    let c := cellOfBytes bytes
    let rx := { s.rx with arrivals := s.rx.arrivals + 1 }
    (bytes.length ≠ 64 →
      exec (.tinArrival bytes) s = .next { s with rx := { rx with framing := rx.framing + 1 } }) ∧
    (bytes.length = 64 → byteAt bytes 5 ≠ hcsOf (bytes.take 5) →
      exec (.tinArrival bytes) s = .next { s with rx := { rx with hcs := rx.hcs + 1 } }) ∧
    (bytes.length = 64 → byteAt bytes 5 = hcsOf (bytes.take 5) → c.kind = .link →
      exec (.tinArrival bytes) s = .next { s with rx := { rx with kind := rx.kind + 1 } }) ∧
    (bytes.length = 64 → byteAt bytes 5 = hcsOf (bytes.take 5) → c.kind ≠ .link → 58 < c.len.toNat →
      exec (.tinArrival bytes) s = .next { s with rx := { rx with length := rx.length + 1 } }) ∧
    (bytes.length = 64 → byteAt bytes 5 = hcsOf (bytes.take 5) → c.len.toNat ≤ 58 →
      (c.kind = .mgmt ∧ c.tag ≠ 4095 ∨ c.kind = .data ∧ c.tag = 4095) →
      exec (.tinArrival bytes) s = .next { s with rx := { rx with tagKind := rx.tagKind + 1 } }) ∧
    (bytes.length = 64 → byteAt bytes 5 = hcsOf (bytes.take 5) → c.len.toNat ≤ 58 → c.kind = .idle →
      exec (.tinArrival bytes) s = .next { s with rx := { rx with idlesReceived := rx.idlesReceived + 1 } })

/-- TIN_ARRIVAL of a DATA cell while the node is STARTING takes the start-up bypass: it expires at hop 0, and otherwise is
offered, with its hop lowered, to the trunk queue of its class (R98). -/
def Obligations.StartUpBypass : Prop :=
  ∀ (bytes : List Byte) (c : Cell) (s : State), TrunkTakes s bytes c → c.kind = .data → s.nodeState = .starting →
    let rx := { s.rx with arrivals := s.rx.arrivals + 1 }
    (c.hop = 0 →
      exec (.tinArrival bytes) s = .next { s with rx := { rx with bypassExpired := rx.bypassExpired + 1 } }) ∧
    (c.hop ≠ 0 →
      exec (.tinArrival bytes) s = .next
        (State.offer { s with rx := { rx with bypassed := rx.bypassed + 1 } } (tq c.cls) { c with hop := c.hop - 1 }
          .trunk))

/-- TIN_ARRIVAL of a DATA cell whose bank is SERVING with no cell of it held, where the record does not accept the cell: a
record that fails its check is made FAULTED and reported; a SPENT, BARRED or FAULTED one raises its refused count; neither
sends the cell anywhere (R12, R22, R23). -/
def Obligations.TrunkCellMeetsAClosedRecord : Prop :=
  ∀ (bytes : List Byte) (c : Cell) (s : State), TrunkTakes s bytes c → c.kind = .data → s.nodeState = .ready →
    s.holds (bankOf c.tag) = false → s.bank (bankOf c.tag) = .serving →
    let n := c.tag.toNat
    let r := (s.record n).content
    let s' := { s with rx := { s.rx with arrivals := s.rx.arrivals + 1, dataReceived := s.rx.dataReceived + 1 } }
    ((s.record n).good = false →
      exec (.tinArrival bytes) s = .next
        { s' with
          table := tableWrite s.table n
            { content := { r with state := .faulted (stateAction r.state), refused := r.refused + 1 }, good := true }
          handed := s.handed ++ [{ block := .steering, report :=
            { type := .recordFault, subject := c.tag.setWidth 16, detail := .code 1 } }] }) ∧
    ((s.record n).good = true →
      ((∃ a, r.state = .spent a) ∨ (∃ a, r.state = .barred a) ∨ ∃ a, r.state = .faulted a) →
      exec (.tinArrival bytes) s = .next
        { s' with table := tableWrite s.table n { content := { r with refused := r.refused + 1 }, good := true } })

/-- TIN_ARRIVAL of a DATA cell that meets a sound VACANT record: the unknown-tag action as it stands, with no record written
(R24). -/
def Obligations.TrunkCellMeetsAVacantRecord : Prop :=
  ∀ (bytes : List Byte) (c : Cell) (s : State), TrunkTakes s bytes c → c.kind = .data → s.nodeState = .ready →
    s.holds (bankOf c.tag) = false → s.bank (bankOf c.tag) = .serving →
    (s.record c.tag.toNat).good = true → (s.record c.tag.toNat).content.state = .vacant →
    let s' := { s with rx := { s.rx with arrivals := s.rx.arrivals + 1, dataReceived := s.rx.dataReceived + 1 } }
    (s.agent.settings.unknownTag = .sink →
      exec (.tinArrival bytes) s = .next { s' with steer := { s.steer with unknownSunk := s.steer.unknownSunk + 1 } }) ∧
    (s.agent.settings.unknownTag = .pass → c.hop = 0 →
      exec (.tinArrival bytes) s = .next { s' with steer := { s.steer with expired := s.steer.expired + 1 } }) ∧
    (s.agent.settings.unknownTag = .pass → c.hop ≠ 0 →
      exec (.tinArrival bytes) s = .next
        (State.offer { s' with steer := { s.steer with unknownPassed := s.steer.unknownPassed + 1 } } (tq c.cls)
          { c with hop := c.hop - 1 } .trunk))

/-- TIN_ARRIVAL of a DATA cell that meets a sound OPEN record: the charge, the move to SPENT, the counts, the sequence check
and their reports come first and whatever the action; then PASS offers the prepared cell to its trunk queue or lets it expire,
DROP offers it unchanged to the drop queue, TAP does the one after the other, and SINK discards it (R25 to R31). -/
def Obligations.TrunkCellMeetsAnOpenRecord : Prop :=
  ∀ (bytes : List Byte) (c : Cell) (s : State) (a : Action), TrunkTakes s bytes c → c.kind = .data →
    s.nodeState = .ready → s.holds (bankOf c.tag) = false → s.bank (bankOf c.tag) = .serving →
    (s.record c.tag.toNat).good = true → (s.record c.tag.toNat).content.state = .opened a →
    let r := (s.record c.tag.toNat).content
    let gap : Bool := match r.expected with | some e => decide (e ≠ c.seq) | none => false
    let charged : State :=
      { s with
        rx := { s.rx with arrivals := s.rx.arrivals + 1, dataReceived := s.rx.dataReceived + 1 }
        table := tableWrite s.table c.tag.toNat
          { content := { r with
              quota := r.quota.map fun q => q - 1
              state := if r.quota = some 1 then .spent a else .opened a
              accepted := r.accepted + 1
              expected := r.expected.map fun _ => c.seq + 1 }
            good := true }
        steer := { s.steer with seqGaps := if gap then s.steer.seqGaps + 1 else s.steer.seqGaps }
        handed := s.handed ++
          (if r.quota = some 1 then
            [{ block := .steering, report := { type := .quotaSpent, subject := c.tag.setWidth 16, detail := .none } }]
          else []) ++
          (if gap then
            [{ block := .steering, report :=
              { type := .seqGap, subject := c.tag.setWidth 16, detail := .sequences (r.expected.getD 0) c.seq } }]
          else []) }
    let ring (u : State) : State :=
      if c.hop = 0 then { u with steer := { u.steer with expired := u.steer.expired + 1 } }
      else u.offer (tq (r.classOv.getD c.cls))
        { c with tag := r.rewrite.getD c.tag, cls := r.classOv.getD c.cls, hop := c.hop - 1 } .trunk
    exec (.tinArrival bytes) s = .next
      (match a with
        | .pass => ring charged
        | .drop t => charged.offer (dq t) c .trunk
        | .tap t => ring (charged.offer (dq t) c .trunk)
        | .sink => { charged with steer := { charged.steer with circuitSunk := charged.steer.circuitSunk + 1 } })

/-- TIN_ARRIVAL of a DATA cell while cells of its bank are held, or while its bank is UPDATING: it joins the Hold Queue, or
overflows it, when cells of its bank are held there or the policy is HOLD; under PASS it goes on unchecked with its hop
lowered; under DISCARD it is discarded; and no record is read or written (R22, R37, R38). -/
def Obligations.TrunkCellMeetsAnUpdate : Prop :=
  ∀ (bytes : List Byte) (c : Cell) (s : State), TrunkTakes s bytes c → c.kind = .data → s.nodeState = .ready →
    let s' := { s with rx := { s.rx with arrivals := s.rx.arrivals + 1, dataReceived := s.rx.dataReceived + 1 } }
    let x := s.queue hq
    let updating := s.holds (bankOf c.tag) = false ∧ s.bank (bankOf c.tag) = .updating
    ((s.holds (bankOf c.tag) = true ∨ updating ∧ s.batch.policy = some .hold) →
      (s.admits hq = true →
        exec (.tinArrival bytes) s = .next
          (State.setQueue { s' with steer := { s.steer with held := s.steer.held + 1 } } hq
            { x with
              entries := x.entries ++ [{ cell := c, source := .trunk, marked := false }]
              admitted := x.admitted + 1 })) ∧
      (s.admits hq = false →
        exec (.tinArrival bytes) s = .next
          (State.setQueue
            { s' with
              steer := { s.steer with holdOverflow := s.steer.holdOverflow + 1 }
              handed := s.handed ++ [{ block := .steering, report :=
                { type := .holdOverflow, subject := s.batch.id.setWidth 16, detail := .none } }] }
            hq { x with refused := x.refused + 1 }))) ∧
    (updating → s.batch.policy = some .pass →
      (c.hop = 0 →
        exec (.tinArrival bytes) s = .next { s' with steer := { s.steer with expired := s.steer.expired + 1 } }) ∧
      (c.hop ≠ 0 →
        exec (.tinArrival bytes) s = .next
          (State.offer { s' with steer := { s.steer with updatePassed := s.steer.updatePassed + 1 } } (tq c.cls)
            { c with hop := c.hop - 1 } .trunk))) ∧
    (updating → s.batch.policy = some .discard →
      exec (.tinArrival bytes) s = .next
        { s' with steer := { s.steer with updateDiscarded := s.steer.updateDiscarded + 1 } })

/-- TIN_ARRIVAL of a MGMT cell, by the addressing state: removed as an orphan, consumed by the Agent, or sent on in transit,
where it expires at hop 0 (R101 to R104). That a cell which expires does not raise assign-passed is the model's reading (log
entry 25). -/
def Obligations.ManagementCellsAreRouted : Prop :=
  ∀ (bytes : List Byte) (c : Cell) (s : State), TrunkTakes s bytes c → c.kind = .mgmt →
    let rx := { s.rx with arrivals := s.rx.arrivals + 1 }
    let orphan := ∃ a, s.agent.address = some a ∧ c.sourceByte = a ∧ c.destination ≠ a
    let passedOn := s.agent.address = none ∧ c.destination = 254 ∧ c.code = 0x16 ∧
      word32At c.payload 9 ≠ s.agent.unitNumber
    let consumed := (∃ a, s.agent.address = some a ∧ c.destination = a) ∨
      s.agent.address = none ∧ c.destination = 254 ∧ ¬passedOn
    (orphan → exec (.tinArrival bytes) s = .next { s with rx := { rx with orphans := rx.orphans + 1 } }) ∧
    (consumed →
      exec (.tinArrival bytes) s = .next
        (State.giveAgent { s with rx := { rx with mgmtConsumed := rx.mgmtConsumed + 1 } }
          { fromLocal := false, cell := c })) ∧
    (¬orphan → ¬consumed → c.hop = 0 →
      exec (.tinArrival bytes) s = .next { s with rx := { rx with mgmtExpired := rx.mgmtExpired + 1 } }) ∧
    (¬orphan → ¬consumed → c.hop ≠ 0 → ∀ passed : Counter,
      (passedOn → passed = rx.assignPassed + 1) → (¬passedOn → passed = rx.assignPassed) →
      exec (.tinArrival bytes) s = .next
        (State.offer { s with rx := { rx with mgmtTransit := rx.mgmtTransit + 1, assignPassed := passed } } (tq c.cls)
          { c with hop := c.hop - 1 } .trunk))

/-- What the Agent makes of a cell given to it: responses and notices, cells without an origin, requests while STARTING,
repeats and stale requests are dealt with at once; a NOTICE-ACK and a request to execute wait in the Agent's hands for the
command that takes them, and any cell waits behind one that waits (R142, R144, R150). The cells that waited behind a request are
given to the Agent again, one by one, after it. A request that is executed is taken out of the hands and counted, and its
origin's entry becomes the most recent with its sequence, the other entries kept in their order; an origin without an entry gets
one, for which the least recent entry that owes no commit is replaced where there are 8 (R143, R147). A request that was executed
before the last NODE-RESET, and not again since, is new, and a commit among them stays so while it is turned away for want of the
lease (R70, R164); so is one that was answered STARTING (R189). That cells wait so is the model's form (log entry 10); how it
knows those requests, by the sequences in the `past` it keeps for that, is its reading (log entry 28), and that one of them
lowers the last sequence of its entry its choice (log entry 30). -/
def Obligations.TheAgentScreensItsCells : Prop :=
  ∀ (m : HandCell) (s : State),
    let count (f : AgentCounters → AgentCounters) : State :=
      { s with agentCtr := f { s.agentCtr with requestsConsumed := s.agentCtr.requestsConsumed + 1 } }
    let clean := m.cell.flagged = false ∧ (m.fromLocal = true ∨ m.cell.sourceByte.toNat ≤ 253)
    let toTable := clean ∧ m.cell.code ≠ 0x41 ∧ (s.nodeState = .ready ∨ m.cell.code = 0x01)
    let wait : State := { s with agent := { s.agent with hands := s.agent.hands ++ [m] } }
    let asNew := ∃ p ∈ s.agent.past, p.origin = m.origin ∧ m.cell.reqSeq ∈ p.anew
    let newer (x last : BitVec 16) : Bool := decide (1 ≤ (x - last).toNat ∧ (x - last).toNat ≤ 32767)
    let noted (stays : Bool) (p : OriginPast) : OriginPast :=
      let latest := if newer m.cell.reqSeq p.latest then m.cell.reqSeq else p.latest
      let stands (x : BitVec 16) : Bool := decide (x ≠ m.cell.reqSeq ∧ newer x latest = false)
      { origin := p.origin
        latest := latest
        since := (if stays then [] else [m.cell.reqSeq]) ++ p.since.filter stands
        anew := (if stays then [m.cell.reqSeq] else []) ++ p.anew.filter stands
        reset := p.reset.filter stands }
    let first : OriginPast := { origin := m.origin, latest := m.cell.reqSeq, since := [], anew := [], reset := none }
    let past (stays : Bool) : List OriginPast :=
      ((if s.agent.past.any fun p => decide (p.origin = m.origin) then [] else [first]) ++ s.agent.past).map fun p =>
        if p.origin = m.origin then noted stays p else p
    (s.agent.hands = [] →
      (m.cell.flagged = true → s.giveAgent m = count fun k => { k with notRequest := k.notRequest + 1 }) ∧
      (m.cell.flagged = false → m.fromLocal = false → 254 ≤ m.cell.sourceByte.toNat →
        s.giveAgent m = count fun k => { k with badSource := k.badSource + 1 }) ∧
      (clean → m.cell.code = 0x41 → s.giveAgent m = wait) ∧
      (clean → m.cell.code ≠ 0x41 → m.cell.code ≠ 0x01 → s.nodeState = .starting →
        s.giveAgent m = State.offerResponse
          { count fun k => { k with startingAnswered := k.startingAnswered + 1 } with
            agent := { s.agent with past := past true } }
          m.origin (s.response m.origin m.cell.reqSeq m.cell.code .starting [])) ∧
      (toTable → s.entryOf m.origin = none → s.giveAgent m = wait) ∧
      (toTable → ∀ e, s.entryOf m.origin = some e →
        (m.cell.reqSeq = e.lastSeq → ∀ r, e.resp = .cached r →
          s.giveAgent m = (count fun k => { k with repeatsAnswered := k.repeatsAnswered + 1 }).offerResponse m.origin
            { r with
              hop := s.agent.settings.hopLimit
              payload := r.payload.set 1 (s.agent.address.getD 254) }) ∧
        (m.cell.reqSeq = e.lastSeq → e.resp = .pending →
          s.giveAgent m = count fun k => { k with repeatsDropped := k.repeatsDropped + 1 }) ∧
        (1 ≤ (m.cell.reqSeq - e.lastSeq).toNat → (m.cell.reqSeq - e.lastSeq).toNat ≤ 32767 →
          s.giveAgent m = wait) ∧
        (32768 ≤ (m.cell.reqSeq - e.lastSeq).toNat → ¬asNew →
          s.giveAgent m = count fun k => { k with stale := k.stale + 1 }) ∧
        (32768 ≤ (m.cell.reqSeq - e.lastSeq).toNat → asNew → s.giveAgent m = wait))) ∧
    (∀ first rest, s.agent.hands = first :: rest → (s.verdict first = .execute ∨ s.verdict first = .ack) →
      s.giveAgent m = wait) ∧
    (∀ cells : List HandCell,
      settleHands cells s = cells.foldl State.giveAgent { s with agent := { s.agent with hands := [] } }) ∧
    ∀ rest : List HandCell,
      let turnedAway := m.cell.code = 0x22 ∧ m.cell.bodyMisfits = false ∧
        (s.agent.address ≠ none ∨ m.origin = .localMgr) ∧ s.lease.holder ≠ some m.origin
      let enteredAs (origins : List OriginEntry) (replaced : Counter) : State :=
        { s with
          agent := { s.agent with hands := rest, origins := origins, past := past (decide (turnedAway ∧ asNew)) }
          agentCtr := { s.agentCtr with
            requestsConsumed := s.agentCtr.requestsConsumed + 1
            executed := s.agentCtr.executed + 1
            entriesReplaced := replaced } }
      let fresh : OriginEntry :=
        { origin := m.origin, lastSeq := m.cell.reqSeq, resp := .pending, owed := none }
      (∀ before e after, s.agent.origins = before ++ e :: after → e.origin = m.origin →
        (∀ x ∈ before ++ after, x.origin ≠ m.origin) →
        s.entered m rest =
          enteredAs ({ e with lastSeq := m.cell.reqSeq } :: (before ++ after)) s.agentCtr.entriesReplaced) ∧
      ((∀ x ∈ s.agent.origins, x.origin ≠ m.origin) →
        (s.agent.origins.length < 8 →
          s.entered m rest = enteredAs (fresh :: s.agent.origins) s.agentCtr.entriesReplaced) ∧
        (8 ≤ s.agent.origins.length → ∀ before e after, s.agent.origins = before ++ e :: after → e.owed = none →
          (∀ x ∈ after, x.owed ≠ none) →
          s.entered m rest = enteredAs (fresh :: (before ++ after)) (s.agentCtr.entriesReplaced + 1)))

/-- An offered response is admitted to its management queue and counted as queued, or refused and counted as lost (R149). The
response cell is written out field by field, with its status code (R148, R151). What follows the handling of a request: its
response is cached in its origin's entry and offered; a request that needed the lease renews it for its holder; and last the
Notice Unit is told of the contact; an accepted commit has no response (R145, R147, R170, R184). An entry whose last sequence is
that of the commit it owes stays PENDING, which the model takes from R143 over R145 (log entry 27). -/
def Obligations.ResponsesAreQueuedOrLost : Prop :=
  (∀ (o : Origin) (c : Cell) (s : State),
    let q := match o with | .trunk _ => mqt | .localMgr => mql
    let x := s.queue q
    (s.admits q = true →
      s.offerResponse o c =
        State.setQueue { s with agentCtr := { s.agentCtr with responsesQueued := s.agentCtr.responsesQueued + 1 } } q
          { x with
            entries := x.entries ++ [{ cell := c, source := .agent, marked := false }]
            admitted := x.admitted + 1 }) ∧
    (s.admits q = false →
      s.offerResponse o c =
        State.setQueue { s with agentCtr := { s.agentCtr with responsesLost := s.agentCtr.responsesLost + 1 } } q
          { x with refused := x.refused + 1 })) ∧
  ∀ (r : Request) (st : Status) (body : List Byte) (leased : Bool) (s : State), body.length ≤ 50 →
    let cell : Cell :=
      { tag := 4095, kind := .mgmt, cls := 3, seq := 0, hop := s.agent.settings.hopLimit, last := true, spare := 0
        len := BitVec.ofNat 6 (8 + body.length), spareLen := 0
        payload :=
          [match r.origin with | .trunk a => a | .localMgr => 255, s.agent.address.getD 254] ++ bytes16 r.seq ++
          [r.code, 0x80,
           match st with
           | .ok => 0 | .partialDone => 1 | .aborted => 2 | .busy => 3 | .starting => 4 | .notHolder => 5
           | .heldByOther => 6 | .noBatch => 7 | .batchOpen => 8 | .full => 9 | .count => 10 | .digest => 11
           | .range => 12 | .refused => 13 | .malformed => 14 | .unknown => 15 | .notUnnumbered => 16,
           BitVec.ofNat 8 body.length] ++ body ++ List.replicate (50 - body.length) 0x00 }
    let cached : State :=
      { s with agent := { s.agent with origins := s.agent.origins.map fun e =>
        if e.origin = r.origin then { e with resp := if e.owed = some e.lastSeq then .pending else .cached cell } else e } }
    let renewed (u : State) : State :=
      if leased = true ∧ u.lease.holder = some r.origin then
        { u with lease := .held r.origin u.agent.settings.leasePeriod.toNat }
      else u
    s.response r.origin r.seq r.code st body = cell ∧
    s.concluded leased r (.answer st body) = State.contact (renewed (cached.offerResponse r.origin cell)) r.origin ∧
    s.concluded leased r .accepted = State.contact (renewed s) r.origin

/-- The admission rule: a claim takes a free slot when its queue is below its floor, or is below its ceiling with more free
slots than the reserve; an admitted claim appends its entry, a refused one only counts (R79). -/
def Obligations.ClaimsFollowTheAdmissionRule : Prop :=
  ∀ (q : QueueId) (c : Cell) (src : Source) (s : State),
    let x := s.queue q
    let free := 512 - ∑ k : QueueId, (s.queue k).entries.length
    let reserve := ∑ k : QueueId, ((s.queue k).floor - (s.queue k).entries.length)
    let admitted := 0 < free ∧
      (x.entries.length < x.floor ∨ x.entries.length < x.ceiling ∧ reserve < free)
    (admitted →
      s.offer q c src = s.setQueue q
        { x with entries := x.entries ++ [{ cell := c, source := src, marked := false }], admitted := x.admitted + 1 }) ∧
    (¬admitted → s.offer q c src = s.setQueue q { x with refused := x.refused + 1 })

/-- HOLD_QUEUE_DRAIN: the oldest held cell whose bank is SERVING leaves the Hold Queue and is looked up; held cells before it
are of banks that are not SERVING (R39). The lookup is that of a fresh trunk cell: written out where the record fails its check
or is SPENT, BARRED or FAULTED, the unknown-tag action where it is VACANT, and the lookup of an OPEN record otherwise. The drain
that leaves the Hold Queue empty lets a WAITING batch begin in the same handling, as APPLY_START does (R51, R53). -/
def Obligations.DrainTakesTheOldestServingCell : Prop :=
  (∀ (before after : List Entry) (e : Entry) (s : State), s.held = false →
    (s.queue hq).entries = before ++ e :: after →
    (∀ x ∈ before, s.bank (bankOf x.cell.tag) ≠ .serving) → s.bank (bankOf e.cell.tag) = .serving →
    let n := e.cell.tag.toNat
    let r := (s.record n).content
    let s' : State := State.setQueue { s with steer := { s.steer with drained := s.steer.drained + 1 } } hq
      { s.queue hq with entries := before ++ after }
    let drained (u : State) : Prop := exec .holdQueueDrain s = .next u.tryStart
    ((s.record n).good = false →
      drained
        { s' with
          table := tableWrite s.table n
            { content := { r with state := .faulted (stateAction r.state), refused := r.refused + 1 }, good := true }
          handed := s.handed ++ [{ block := .steering, report :=
            { type := .recordFault, subject := e.cell.tag.setWidth 16, detail := .code 1 } }] }) ∧
    ((s.record n).good = true →
      ((∃ a, r.state = .spent a) ∨ (∃ a, r.state = .barred a) ∨ ∃ a, r.state = .faulted a) →
      drained
        { s' with table := tableWrite s.table n { content := { r with refused := r.refused + 1 }, good := true } }) ∧
    ((s.record n).good = true → r.state = .vacant → drained (s'.unknownTag e.cell)) ∧
    ((s.record n).good = true → (∃ a, r.state = .opened a) → drained (s'.lookup e.cell))) ∧
  ∀ u : State,
    let touches (b : BankId) : Prop := ∃ i ∈ u.batch.staging, ∃ e, editOf i = some e ∧ e.bank = b
    ((u.batch.state ≠ .waiting ∨ (u.queue hq).entries ≠ []) → u.tryStart = u) ∧
    (u.batch.state = .waiting → (u.queue hq).entries = [] → ∀ b, touches b → (∀ k < b, ¬touches k) →
      u.tryStart = State.setBank { u with batch := { u.batch with state := .applying } } b .updating) ∧
    (u.held = false → exec .applyStart u = .next u.tryStart)

/-- TOUT_OPPORTUNITY where no deferred check can be made: the head of MQT is sent first; otherwise the first candidate from
the rotation pointer in the highest class that has one, and that class's pointer moves past it; otherwise an IDLE cell, built
afresh (R107 to R113). The position 0 of a class's rotation is its trunk queue, and position n + 1 is the add queue of
port n. -/
def Obligations.ToutSendsTheChosenCell : Prop :=
  ∀ (order : List PortId) (s : State), s.held = false →
    (∀ (n : PortId) (e : Entry), (s.queue (aq n)).entries.head? = some e → e.marked = true →
      s.bank (bankOf e.cell.tag) ≠ .serving) →
    let at_ (c : ClassId) (i : Fin 5) : QueueId := if h : i.val = 0 then tq c else aq ⟨i.val - 1, by omega⟩
    let candidate (c : ClassId) (i : Fin 5) (e : Entry) : Prop :=
      (s.queue (at_ c i)).entries.head? = some e ∧ (i ≠ 0 → e.marked = false ∧ e.cell.cls = c)
    let sent (q : QueueId) (e : Entry) (rest : List Entry) : State :=
      State.setQueue
        { s with
          sched := { s.sched with cellsSent := s.sched.cellsSent + 1 }
          tout := some (e.cell.header ++ [hcsOf e.cell.header] ++ e.cell.payload) }
        q { s.queue q with entries := rest }
    (∀ e rest, (s.queue mqt).entries = e :: rest → exec (.toutOpportunity order) s = .next (sent mqt e rest)) ∧
    ((s.queue mqt).entries = [] →
      (∀ (c : ClassId) (k : Fin 5) (e : Entry) (rest : List Entry),
        (∀ c' : ClassId, c < c' → ∀ i e', ¬candidate c' i e') →
        (∀ j : Fin 5, j < k → ∀ e', ¬candidate c (s.rotation[c] + j) e') →
        candidate c (s.rotation[c] + k) e →
        (s.queue (at_ c (s.rotation[c] + k))).entries = e :: rest →
        exec (.toutOpportunity order) s = .next
          { sent (at_ c (s.rotation[c] + k)) e rest with
            rotation := s.rotation.set c.val (s.rotation[c] + k + 1) c.isLt }) ∧
      ((∀ (c : ClassId) (i : Fin 5) (e : Entry), ¬candidate c i e) →
        exec (.toutOpportunity order) s = .next
          { s with
            sched := { s.sched with idlesSent := s.sched.idlesSent + 1 }
            tout := some ([0x00, 0x08, 0x00, 0x00, 0x00, 0xB0] ++ List.replicate 58 0x00) }))

/-- TOUT_OPPORTUNITY makes the deferred checks first. They are made in any order among the add queues: the order named, then each
queue's remaining ones. A check that passes charges, counts and stamps the record and the cell as it stands at the head, sets the
hop and removes the mark; a check that fails takes the cell off its add queue and counts as every failed add check, and the new
head is considered in its turn; a head without a mark, or whose bank is not SERVING, is not checked. Each clause says which state
the opportunity goes on from, whatever waits on the other add queues and behind the cell (R33, R34, R36; the order is free: log
entry 11). -/
def Obligations.DeferredChecksComeFirst : Prop :=
  ∀ (n : PortId) (s : State), s.held = false →
    let checkable (m : PortId) : Prop :=
      ∃ e, (s.queue (aq m)).entries.head? = some e ∧ e.marked = true ∧ s.bank (bankOf e.cell.tag) = .serving
    (∀ (order : List PortId) (e : Entry) (rest : List Entry), (s.queue (aq n)).entries = e :: rest → e.marked = true →
      s.bank (bankOf e.cell.tag) = .serving →
      let tag := e.cell.tag.toNat
      let r := (s.record tag).content
      let refusedBy : State :=
        State.setPort (s.setQueue (aq n) { s.queue (aq n) with entries := rest }) n
          { s.port n with ctr := { (s.port n).ctr with addRefused := (s.port n).ctr.addRefused + 1 } }
      let goesOnFrom (t : State) : Prop := exec (.toutOpportunity (n :: order)) s = exec (.toutOpportunity order) t
      ((s.record tag).good = true → r.source = some n → ∀ a, r.state = .opened a →
        goesOnFrom
          (State.setQueue
            { s with
              table := tableWrite s.table tag
                { content := { r with
                    quota := r.quota.map fun q => q - 1
                    state := if r.quota = some 1 then .spent a else .opened a
                    accepted := r.accepted + 1
                    stamp := r.stamp.map fun x => x + 1 }
                  good := true }
              handed := s.handed ++
                (if r.quota = some 1 then
                  [{ block := .steering, report :=
                    { type := .quotaSpent, subject := e.cell.tag.setWidth 16, detail := .none } }]
                else []) }
            (aq n)
            { s.queue (aq n) with
              entries :=
                { e with
                  marked := false
                  cell := { e.cell with seq := r.stamp.getD e.cell.seq, hop := s.agent.settings.hopLimit } } :: rest })) ∧
      ((s.record tag).good = true → r.state = .vacant → goesOnFrom refusedBy) ∧
      ((s.record tag).good = true → r.state ≠ .vacant → ((∃ a, r.state = .opened a) → r.source ≠ some n) →
        goesOnFrom
          { refusedBy with
            table := tableWrite s.table tag { content := { r with refused := r.refused + 1 }, good := true } }) ∧
      ((s.record tag).good = false →
        goesOnFrom
          { refusedBy with
            table := tableWrite s.table tag
              { content := { r with state := .faulted (stateAction r.state), refused := r.refused + 1 }, good := true }
            handed := s.handed ++ [{ block := .steering, report :=
              { type := .recordFault, subject := e.cell.tag.setWidth 16, detail := .code 1 } }] })) ∧
    (¬checkable n →
      ∀ order : List PortId, exec (.toutOpportunity (n :: order)) s = exec (.toutOpportunity order) s) ∧
    (checkable n → (∀ m, m < n → ¬checkable m) → exec (.toutOpportunity []) s = exec (.toutOpportunity [n]) s)

/-! ### The tributary ports -/

/-- What leaving UP does beside the change of state: the credits go to 0, the silence timer stops, the drop queue is flushed,
and MQL with it for port 0, and ups-lost is raised; the add queue and everything else stays (R84, R126). -/
def Obligations.LeavingUpClearsThePort : Prop :=
  ∀ (n : PortId) (s : State),
    let flushed (q : QueueId) : Queue :=
      { s.queue q with
        entries := []
        flushed := (s.queue q).flushed + BitVec.ofNat 32 (s.queue q).entries.length }
    (s.leaveUp n).port n =
      { s.port n with
        dropCredit := 0
        addCredits := 0
        silenceTimer := false
        ctr := { (s.port n).ctr with upsLost := (s.port n).ctr.upsLost + 1 } } ∧
    (∀ m, m ≠ n → (s.leaveUp n).port m = s.port m) ∧
    (s.leaveUp n).queue (dq n) = flushed (dq n) ∧
    (s.leaveUp n).queue mql = (if n = 0 then flushed mql else s.queue mql) ∧
    (∀ q, q ≠ dq n → q ≠ mql → (s.leaveUp n).queue q = s.queue q) ∧
    s.leaveUp n = { s with ports := (s.leaveUp n).ports, queues := (s.leaveUp n).queues }

/-- PORT_SIGNAL_PRESENT and PORT_SIGNAL_LOST by the port state: a DOWN port of a READY node enters ALIGNING with its next
token and its timers; ALIGNING and UP ports go DOWN, each with what leaving that state does; every change of state is
reported, and a loss is counted in any state (R119, R120, R126, R127). -/
def Obligations.PortsFollowTheirSignal : Prop :=
  ∀ (n : PortId) (begun : Bool) (s : State), s.held = false →
    let p := s.port n
    let change (x : BitVec 8) : List Handed :=
      [{ block := .port n, report := { type := .linkChange, subject := BitVec.ofNat 16 n.val, detail := .code x } }]
    let lost : Port :=
      { p with
        signal := false
        ctr := { p.ctr with
          signalLosses := p.ctr.signalLosses + 1
          truncated := if begun = true ∧ p.signal = true ∧ p.state ≠ .off then p.ctr.truncated + 1
            else p.ctr.truncated } }
    (p.state = .down ∧ s.nodeState = .ready →
      exec (.portSignalPresent n) s = .next
        (State.setPort { s with handed := s.handed ++ change 2 } n
          { p with
            signal := true
            state := .aligning
            token := p.token + 1
            alignPending := true
            resendTimer := true
            stallTimer := true
            stallReported := false })) ∧
    (¬(p.state = .down ∧ s.nodeState = .ready) →
      exec (.portSignalPresent n) s = .next (s.setPort n { p with signal := true })) ∧
    ((p.state = .down ∨ p.state = .off) →
      exec (.portSignalLost n begun) s = .next (s.setPort n lost)) ∧
    (p.state = .aligning →
      exec (.portSignalLost n begun) s = .next
        (State.setPort { s with handed := s.handed ++ change 1 } n
          { lost with state := .down, alignPending := false, resendTimer := false, stallTimer := false })) ∧
    (p.state = .up →
      ∃ t, exec (.portSignalLost n begun) s = .next t ∧
        t.port n =
          { lost with
            state := .down
            dropCredit := 0
            addCredits := 0
            silenceTimer := false
            ctr := { lost.ctr with upsLost := p.ctr.upsLost + 1 } } ∧
        (∀ m, m ≠ n → t.port m = s.port m) ∧ t.handed = s.handed ++ change 1 ∧
        t = { s with ports := t.ports, queues := (s.leaveUp n).queues, handed := t.handed })

/-- PORT_ARRIVAL: every arrival is counted, and the first of the four checks that fails discards it under its own counter; a
well-formed IDLE cell is discarded and counted, and a LINK cell with no known op is a link error (R128, R129). -/
def Obligations.PortReceiveChecks : Prop :=
  ∀ (n : PortId) (bytes : List Byte) (s : State), s.held = false → (s.port n).state ≠ .off →
    (s.port n).signal = true →
    let c := cellOfBytes bytes
    let k := { (s.port n).ctr with arrivals := (s.port n).ctr.arrivals + 1 }
    let counted (x : PortCounters) : Host.Outcome State Fault Refusal := .next (s.setPort n { s.port n with ctr := x })
    let framed := bytes.length = 64 ∧ byteAt bytes 5 = hcsOf (bytes.take 5)
    (bytes.length ≠ 64 → exec (.portArrival n bytes) s = counted { k with framing := k.framing + 1 }) ∧
    (bytes.length = 64 → byteAt bytes 5 ≠ hcsOf (bytes.take 5) →
      exec (.portArrival n bytes) s = counted { k with hcs := k.hcs + 1 }) ∧
    (framed → 58 < c.len.toNat → exec (.portArrival n bytes) s = counted { k with length := k.length + 1 }) ∧
    (framed → c.len.toNat ≤ 58 → (c.kind = .mgmt ∧ c.tag ≠ 4095 ∨ c.kind = .data ∧ c.tag = 4095) →
      exec (.portArrival n bytes) s = counted { k with tagKind := k.tagKind + 1 }) ∧
    (framed → c.len.toNat ≤ 58 → c.kind = .idle →
      exec (.portArrival n bytes) s = counted { k with idlesReceived := k.idlesReceived + 1 }) ∧
    (framed → c.len.toNat ≤ 58 → c.kind = .link → (c.tag = 0 ∨ 4 ≤ c.tag.toNat) →
      exec (.portArrival n bytes) s = counted { k with linkErrors := k.linkErrors + 1 })

/-- PORT_ARRIVAL of a DATA cell on a port that is UP, while its bank is SERVING: with no add credit outstanding it is a
credit violation; otherwise it consumes a credit and meets the add check, which passes only on a sound OPEN record whose
source is this port; a cell that passes is charged, counted, stamped, given the hop limit and placed on the add queue, where
the device's laws leave room for it, so that it is always admitted (R33, R34, R81, R130). -/
def Obligations.AddCellsMeetTheAddCheck : Prop :=
  ∀ (n : PortId) (bytes : List Byte) (c : Cell) (s : State), PortTakes s n bytes c → c.kind = .data →
    (s.port n).state = .up →
    let p := s.port n
    let k := { p.ctr with arrivals := p.ctr.arrivals + 1 }
    let tag := c.tag.toNat
    let r := (s.record tag).content
    let taken : Port :=
      { p with addCredits := p.addCredits - 1, ctr := { k with dataReceived := k.dataReceived + 1 } }
    let refusedBy : State :=
      s.setPort n { taken with ctr := { taken.ctr with addRefused := taken.ctr.addRefused + 1 } }
    let x := s.queue (aq n)
    let added : Cell := { c with seq := r.stamp.getD c.seq, hop := s.agent.settings.hopLimit }
    (p.addCredits = 0 →
      exec (.portArrival n bytes) s = .next
        (s.setPort n { p with ctr := { k with creditViolations := k.creditViolations + 1 } })) ∧
    (0 < p.addCredits → s.bank (bankOf c.tag) = .serving →
      ((s.record tag).good = true → r.source = some n → ∀ a, r.state = .opened a →
        let passed : State :=
          State.setPort
            { s with
              table := tableWrite s.table tag
                { content := { r with
                    quota := r.quota.map fun q => q - 1
                    state := if r.quota = some 1 then .spent a else .opened a
                    accepted := r.accepted + 1
                    stamp := r.stamp.map fun x => x + 1 }
                  good := true }
              handed := s.handed ++
                (if r.quota = some 1 then
                  [{ block := .steering, report :=
                    { type := .quotaSpent, subject := c.tag.setWidth 16, detail := .none } }]
                else []) }
            n taken
        exec (.portArrival n bytes) s = .next (passed.offer (aq n) added (.tributary n)) ∧
        (QueueLaws s →
          exec (.portArrival n bytes) s = .next
            (passed.setQueue (aq n)
              { x with
                entries := x.entries ++ [{ cell := added, source := .tributary n, marked := false }]
                admitted := x.admitted + 1 }))) ∧
      ((s.record tag).good = true → r.state = .vacant → exec (.portArrival n bytes) s = .next refusedBy) ∧
      ((s.record tag).good = true → r.state ≠ .vacant → ((∃ a, r.state = .opened a) → r.source ≠ some n) →
        exec (.portArrival n bytes) s = .next
          { refusedBy with
            table := tableWrite s.table tag { content := { r with refused := r.refused + 1 }, good := true } }) ∧
      ((s.record tag).good = false →
        exec (.portArrival n bytes) s = .next
          { refusedBy with
            table := tableWrite s.table tag
              { content := { r with state := .faulted (stateAction r.state), refused := r.refused + 1 }, good := true }
            handed := s.handed ++ [{ block := .steering, report :=
              { type := .recordFault, subject := c.tag.setWidth 16, detail := .code 1 } }] }))

/-- PORT_ARRIVAL of a DATA cell with an add credit, while its bank is UPDATING: under HOLD it is queued marked and unchecked,
under PASS it is queued unmarked with the hop limit, under DISCARD it is discarded; no record is read or written, and the
device's laws leave room on the add queue, so that the offer is admitted (R35, R130). -/
def Obligations.AddCellsMeetTheHoldPolicy : Prop :=
  ∀ (n : PortId) (bytes : List Byte) (c : Cell) (s : State), PortTakes s n bytes c → c.kind = .data →
    (s.port n).state = .up → 0 < (s.port n).addCredits → s.bank (bankOf c.tag) = .updating → QueueLaws s →
    let p := s.port n
    let x := s.queue (aq n)
    let taken : Port :=
      { p with
        addCredits := p.addCredits - 1
        ctr := { p.ctr with arrivals := p.ctr.arrivals + 1, dataReceived := p.ctr.dataReceived + 1 } }
    let queued (k : SteerCounters) (cell : Cell) (marked : Bool) : State :=
      State.setQueue (State.setPort { s with steer := k } n taken) (aq n)
        { x with
          entries := x.entries ++ [{ cell := cell, source := .tributary n, marked := marked }]
          admitted := x.admitted + 1 }
    (s.batch.policy = some .hold →
      exec (.portArrival n bytes) s = .next (queued { s.steer with addDeferred := s.steer.addDeferred + 1 } c true)) ∧
    (s.batch.policy = some .pass →
      exec (.portArrival n bytes) s = .next
        (queued { s.steer with addUnchecked := s.steer.addUnchecked + 1 } { c with hop := s.agent.settings.hopLimit }
          false)) ∧
    (s.batch.policy = some .discard →
      exec (.portArrival n bytes) s = .next
        (s.setPort n { taken with ctr := { taken.ctr with addRefused := taken.ctr.addRefused + 1 } }))

/-- PORT_ARRIVAL of a DATA or MGMT cell while the port is not UP counts not-up; a MGMT cell in UP goes to the Agent as LOCAL
on port 0 with LMGT high, and is refused on any other port or with LMGT low (R129, R131). -/
def Obligations.PortManagementIsLocal : Prop :=
  ∀ (n : PortId) (bytes : List Byte) (c : Cell) (s : State), PortTakes s n bytes c →
    let p := s.port n
    let k := { p.ctr with arrivals := p.ctr.arrivals + 1 }
    ((c.kind = .data ∨ c.kind = .mgmt) → p.state ≠ .up →
      exec (.portArrival n bytes) s = .next (s.setPort n { p with ctr := { k with notUp := k.notUp + 1 } })) ∧
    (c.kind = .mgmt → p.state = .up → n = 0 → s.agent.lmgt = true →
      exec (.portArrival n bytes) s = .next
        (State.giveAgent (s.setPort n { p with ctr := { k with mgmtLocal := k.mgmtLocal + 1 } })
          { fromLocal := true, cell := c })) ∧
    (c.kind = .mgmt → p.state = .up → (n ≠ 0 ∨ s.agent.lmgt = false) →
      exec (.portArrival n bytes) s = .next
        (s.setPort n { p with ctr := { k with mgmtRefused := k.mgmtRefused + 1 } }))

/-- ALIGN by the port state: a peer restart in UP, an ALIGN sent back at once in ALIGNING, and ignored in DOWN; and the
arrival of the bytes of such a cell does what the command does (R124, R126, R127). That the command counts as an arrival, and
agrees with PORT_ARRIVAL, is the model's reading (log entry 20). -/
def Obligations.AlignRestartsTheLink : Prop :=
  ∀ (n : PortId) (s : State), s.held = false → (s.port n).signal = true →
    let p := s.port n
    let k := { p.ctr with arrivals := p.ctr.arrivals + 1 }
    (p.state = .aligning →
      exec (.align n) s = .next
        (s.setPort n { p with alignPending := true, ctr := { k with linkIgnored := k.linkIgnored + 1 } })) ∧
    (p.state = .down →
      exec (.align n) s = .next (s.setPort n { p with ctr := { k with linkIgnored := k.linkIgnored + 1 } })) ∧
    (p.state = .up →
      ∃ t, exec (.align n) s = .next t ∧
        t.port n =
          { p with
            state := .aligning
            token := p.token + 1
            alignPending := true
            resendTimer := true
            stallTimer := true
            stallReported := false
            dropCredit := 0
            addCredits := 0
            silenceTimer := false
            ctr := { k with upsLost := k.upsLost + 1, peerRestarts := k.peerRestarts + 1 } } ∧
        (∀ m, m ≠ n → t.port m = s.port m) ∧
        t.handed = s.handed ++
          [{ block := .port n, report := { type := .linkChange, subject := BitVec.ofNat 16 n.val, detail := .code 2 } }] ∧
        t = { s with ports := t.ports, queues := (s.leaveUp n).queues, handed := t.handed }) ∧
    (p.state ≠ .off → ∀ bytes : List Byte, portWellFormed bytes = true → (cellOfBytes bytes).kind = .link →
      (cellOfBytes bytes).tag = 1 → exec (.portArrival n bytes) s = exec (.align n) s)

/-- ALIGN_ACK: a matching token in ALIGNING makes the port UP, stops its timers, clears ALIGN pending, starts the silence
timer and leaves no credit; any other ALIGN-ACK is ignored and counted (R123, R127). That the command counts as an arrival, and
agrees with PORT_ARRIVAL, is the model's reading (log entry 20). -/
def Obligations.AlignAckMakesThePortUp : Prop :=
  ∀ (n : PortId) (token : Byte) (s : State), s.held = false → (s.port n).signal = true → (s.port n).state ≠ .off →
    let p := s.port n
    let k := { p.ctr with arrivals := p.ctr.arrivals + 1 }
    (p.state = .aligning → token = p.token →
      exec (.alignAck n token) s = .next
        (State.setPort
          { s with handed := s.handed ++
            [{ block := .port n, report :=
              { type := .linkChange, subject := BitVec.ofNat 16 n.val, detail := .code 3 } }] }
          n
          { p with
            state := .up
            alignPending := false
            resendTimer := false
            stallTimer := false
            silenceTimer := true
            dropCredit := 0
            addCredits := 0
            ctr := k })) ∧
    (¬(p.state = .aligning ∧ token = p.token) →
      exec (.alignAck n token) s = .next
        (s.setPort n { p with ctr := { k with linkIgnored := k.linkIgnored + 1 } })) ∧
    (∀ bytes : List Byte, portWellFormed bytes = true → (cellOfBytes bytes).kind = .link →
      (cellOfBytes bytes).tag = 2 → (cellOfBytes bytes).seq = token →
      exec (.portArrival n bytes) s = exec (.alignAck n token) s)

/-- CREDIT: in UP the amount is added to the drop credit, which saturates at 255 with a link error; amount 0 is a link error;
in any other state the cell is ignored (R132). That the command counts as an arrival, and agrees with PORT_ARRIVAL, is the
model's reading (log entry 20). -/
def Obligations.CreditRaisesDropCredit : Prop :=
  ∀ (n : PortId) (amount : Byte) (s : State), s.held = false → (s.port n).signal = true → (s.port n).state ≠ .off →
    let p := s.port n
    let k := { p.ctr with arrivals := p.ctr.arrivals + 1 }
    (p.state = .up → 1 ≤ amount.toNat → p.dropCredit + amount.toNat ≤ 255 →
      exec (.credit n amount) s = .next
        (s.setPort n { p with dropCredit := p.dropCredit + amount.toNat, ctr := k })) ∧
    (p.state = .up → 1 ≤ amount.toNat → 255 < p.dropCredit + amount.toNat →
      exec (.credit n amount) s = .next
        (s.setPort n { p with dropCredit := 255, ctr := { k with linkErrors := k.linkErrors + 1 } })) ∧
    (p.state = .up → amount = 0 →
      exec (.credit n amount) s = .next
        (s.setPort n { p with ctr := { k with linkErrors := k.linkErrors + 1 } })) ∧
    (p.state ≠ .up →
      exec (.credit n amount) s = .next
        (s.setPort n { p with ctr := { k with linkIgnored := k.linkIgnored + 1 } })) ∧
    (∀ bytes : List Byte, portWellFormed bytes = true → (cellOfBytes bytes).kind = .link →
      (cellOfBytes bytes).tag = 3 → (cellOfBytes bytes).seq = amount →
      exec (.portArrival n bytes) s = exec (.credit n amount) s)

/-- PORT_OPPORTUNITY sends the first of these that applies: a pending ALIGN, a CREDIT of the whole grantable amount, the head
of MQL on port 0 with LMGT high, the head of the drop queue, both against drop credit, and otherwise an IDLE cell (R118, R121,
R133 to R135). -/
def Obligations.PortSendsInOrder : Prop :=
  ∀ (n : PortId) (s : State), s.held = false → (s.port n).state ≠ .off →
    let p := s.port n
    let link (op : Tag) (value : Byte) : Cell :=
      { tag := op, kind := .link, cls := 0, seq := value, hop := 0, last := false, spare := 0, len := 0, spareLen := 0,
        payload := List.replicate 58 0x00 }
    let amount := min 255 ((s.queue (aq n)).floor - (s.queue (aq n)).entries.length - p.addCredits)
    let grants := p.state = .up ∧ 0 < amount
    let delivers := p.state = .up ∧ 0 < p.dropCredit
    let fromHead (q : QueueId) (e : Entry) (rest : List Entry) : State :=
      State.setPort (s.setQueue q { s.queue q with entries := rest }) n
        { p with
          dropCredit := p.dropCredit - 1
          ctr := { p.ctr with cellsSent := p.ctr.cellsSent + 1 }
          sending := some e.cell.frame }
    (p.alignPending = true →
      exec (.portOpportunity n) s = .next
        (s.setPort n
          { p with
            alignPending := false
            ctr := { p.ctr with alignSent := p.ctr.alignSent + 1 }
            sending := some (link 1 p.token).frame })) ∧
    (p.alignPending = false →
      (grants →
        exec (.portOpportunity n) s = .next
          (s.setPort n
            { p with
              addCredits := p.addCredits + amount
              ctr := { p.ctr with
                creditSent := p.ctr.creditSent + 1
                creditsGranted := p.ctr.creditsGranted + BitVec.ofNat 32 amount }
              sending := some (link 3 (BitVec.ofNat 8 amount)).frame })) ∧
      (¬grants →
        (∀ e rest, n = 0 → s.agent.lmgt = true → delivers → (s.queue mql).entries = e :: rest →
          exec (.portOpportunity n) s = .next (fromHead mql e rest)) ∧
        (∀ e rest, (n ≠ 0 ∨ s.agent.lmgt = false ∨ (s.queue mql).entries = []) → delivers →
          (s.queue (dq n)).entries = e :: rest →
          exec (.portOpportunity n) s = .next (fromHead (dq n) e rest)) ∧
        ((delivers → (s.queue (dq n)).entries = [] ∧
            (n ≠ 0 ∨ s.agent.lmgt = false ∨ (s.queue mql).entries = [])) →
          exec (.portOpportunity n) s = .next
            (s.setPort n
              { p with
                ctr := { p.ctr with idlesSent := p.ctr.idlesSent + 1 }
                sending := some ([0x00, 0x08, 0x00, 0x00, 0x00, 0xB0] ++ List.replicate 58 0x00) }))))

/-- The timers of a port: the resend timer sets ALIGN pending again, the stall timer reports once and stops, and the silence
timer moves an UP port to DOWN, and on to ALIGNING when its signal is present and the node READY (R121, R122, R125). -/
def Obligations.PortTimersExpire : Prop :=
  ∀ (n : PortId) (s : State), s.held = false →
    let p := s.port n
    let report (ty : NoticeType) (d : Detail) : Handed :=
      { block := .port n, report := { type := ty, subject := BitVec.ofNat 16 n.val, detail := d } }
    (p.state = .aligning → p.resendTimer = true →
      exec (.resendTimerExpiry n) s = .next (s.setPort n { p with alignPending := true })) ∧
    (p.state = .aligning → p.stallTimer = true →
      exec (.stallTimerExpiry n) s = .next
        (State.setPort { s with handed := s.handed ++ [report .alignStall .none] } n
          { p with
            stallReported := true
            stallTimer := false
            ctr := { p.ctr with stalls := p.ctr.stalls + 1 } })) ∧
    (p.state = .up → p.silenceTimer = true →
      let down : Port :=
        { p with
          state := .down
          dropCredit := 0
          addCredits := 0
          silenceTimer := false
          ctr := { p.ctr with upsLost := p.ctr.upsLost + 1, silences := p.ctr.silences + 1 } }
      let aligns := p.signal = true ∧ s.nodeState = .ready
      ∃ t, exec (.silenceTimeout n) s = .next t ∧
        (aligns →
          t.port n =
            { down with
              state := .aligning
              token := p.token + 1
              alignPending := true
              resendTimer := true
              stallTimer := true
              stallReported := false } ∧
          t.handed = s.handed ++ [report .linkChange (.code 1), report .linkChange (.code 2)]) ∧
        (¬aligns → t.port n = down ∧ t.handed = s.handed ++ [report .linkChange (.code 1)]) ∧
        (∀ m, m ≠ n → t.port m = s.port m) ∧
        t = { s with ports := t.ports, queues := (s.leaveUp n).queues, handed := t.handed })

/-! ### Requests -/

/-- The checks that every request passes before its block takes it, in order: a body that does not fit is MALFORMED; a code
outside the catalogue is UNKNOWN; a trunk origin at an unnumbered node is REFUSED, but for NODE-QUERY and ASSIGN-ADDRESS; a
request that needs the lease from an origin that does not hold it is NOT-HOLDER, naming the holder. None of them has any other
effect, and each renews a lease that its origin holds when the catalogue marks it so (R147, R151, R170). -/
def Obligations.RequestsAreTurnedAway : Prop :=
  ∀ (m : HandCell) (rest : List HandCell) (s : State),
    let r := m.request
    let misfit := 50 < m.cell.bodyLen ∨ m.cell.len.toNat < 8 + m.cell.bodyLen
    (∀ (i : Instr) (code : Byte), (i, code) ∈ requestCommands → Takes s m rest code →
      let leased : Bool :=
        decide (0x10 ≤ code.toNat ∧ code.toNat ≤ 0x15 ∨ 0x20 ≤ code.toNat ∧ code.toNat ≤ 0x23 ∨
          code = 0x16 ∧ s.agent.address ≠ none)
      let barred := s.agent.address = none ∧ m.origin ≠ .localMgr ∧ code ≠ 0x01 ∧ code ≠ 0x16
      (misfit → Serves i s leased id r .malformed []) ∧
      (¬misfit → barred → Serves i s leased id r .refused []) ∧
      (¬misfit → ¬barred → leased = true → s.lease.holder ≠ some m.origin →
        Serves i s leased id r .notHolder
          [match s.lease.holder with
            | some (.trunk a) => a
            | some .localMgr => 254
            | none => 255])) ∧
    ((∀ p ∈ requestCommands, p.2 ≠ m.cell.code) → Takes s m rest m.cell.code →
      (misfit → Serves .unknownRequest s false id r .malformed []) ∧
      (¬misfit → Serves .unknownRequest s false id r .unknown []))

/-- NODE_QUERY: the 28 bytes of the answer, read from the node as it stands. The seconds that a HELD lease has left are a free
value of the model between 1 and those last known (log entry 8), and 0 while it is FREE or OVERDUE (R153, R166). The empty body of
a MALFORMED answer is the model's choice (log entry 14). -/
def Obligations.NodeQueryReadsTheNode : Prop :=
  ∀ (m : HandCell) (rest : List HandCell) (s : State), Takes s m rest 0x01 → Reaches s m →
    let bank (b : BankId) : BitVec 2 :=
      match s.bank b with | .unready => 0 | .clearing => 1 | .serving => 2 | .updating => 3
    let port (n : PortId) : BitVec 2 :=
      match (s.port n).state with | .off => 0 | .down => 1 | .aligning => 2 | .up => 3
    let body (seconds : Nat) : List Byte :=
      [0x5E, 0x4A, 0x16, Config.siliconRevision] ++ bytes32 s.agent.unitNumber ++
      [s.agent.address.getD 254,
       match s.nodeState with | .starting => 0 | .ready => 1,
       match s.batch.state with | .none => 0 | .opened => 1 | .waiting => 2 | .applying => 3,
       s.batch.id,
       BitVec.ofNat 8 s.batch.staging.length,
       match s.batch.policy with | some .hold => 0 | some .pass => 1 | some .discard => 2 | none => 255,
       originCode s.lease.holder,
       BitVec.ofNat 8 seconds,
       bank 0 ++ bank 1 ++ bank 2 ++ bank 3,
       port 0 ++ port 1 ++ port 2 ++ port 3,
       match s.tin with | .silent => 0 | .active => 1,
       if s.agent.lmgt = true then 0x80 else 0x00,
       originCode s.agent.settings.destination,
       if s.agent.settings.destination = none then 3 else if s.notices.unreachable = true then 2
         else if ∃ e, s.notices.queue.head? = some e ∧ e.awaiting = true then 1 else 0,
       BitVec.ofNat 8 s.notices.queue.length,
       match s.agent.settings.unknownTag with | .pass => 0 | .sink => 1,
       s.agent.settings.hopLimit.setWidth 8] ++
      bytes16 s.agent.settings.ackTimeout ++ [s.agent.settings.leasePeriod]
    (∀ k, (body k).length = 28) ∧
    (m.request.body ≠ [] → Serves .nodeQuery s false id m.request .malformed []) ∧
    (m.request.body = [] → (∀ o n, s.lease ≠ .held o n) → Serves .nodeQuery s false id m.request .ok (body 0)) ∧
    (m.request.body = [] → ∀ o n, s.lease = .held o n → 1 ≤ n →
      ∃ seconds, 1 ≤ seconds ∧ seconds ≤ n ∧
        Serves .nodeQuery s false (fun u => { u with lease := .held o seconds, draws := u.draws + 1 }) m.request .ok
          (body seconds))

/-- COUNTERS_READ, QUEUE_QUERY and PORT_QUERY: their answers, read from the node as it stands, and their refusals; none of them
changes what it reads, and the agent counters already count the request that reads them as executed (R87, R138, R147, R157).
That they count it as consumed no sooner than its own command takes it, and the empty body of a MALFORMED or RANGE answer, are
the model's choices (log entries 10 and 14). -/
def Obligations.CountersQueuesAndPortsAreRead : Prop :=
  ∀ (m : HandCell) (rest : List HandCell) (s : State), Reaches s m →
    let r := m.request
    let group (k : Nat) : List Counter :=
      if k = 0 then s.rx.list ++ s.steer.list
      else if k = 1 then [s.sched.cellsSent, s.sched.idlesSent]
      else if k = 2 then
        { s.agentCtr with
          requestsConsumed := s.agentCtr.requestsConsumed + 1
          executed := s.agentCtr.executed + 1
          entriesReplaced :=
            if s.entryOf m.origin = none ∧ 8 ≤ s.agent.origins.length then s.agentCtr.entriesReplaced + 1
            else s.agentCtr.entriesReplaced }.list
      else if k = 3 then s.noticeCtr.list
      else (s.port (Fin.ofNat 4 (k - 4))).ctr.list
    (Takes s m rest 0x02 →
      (r.body.length ≠ 2 → Serves .countersRead s false id r .malformed []) ∧
      (∀ g f : Byte, r.body = [g, f] →
        ((7 < g.toNat ∨ (group g.toNat).length ≤ f.toNat) → Serves .countersRead s false id r .range []) ∧
        (g.toNat ≤ 7 → f.toNat < (group g.toNat).length →
          let page := ((group g.toNat).drop f.toNat).take 11
          Serves .countersRead s false id r .ok
            ([g, f, BitVec.ofNat 8 (group g.toNat).length, BitVec.ofNat 8 page.length] ++ page.flatMap bytes32)))) ∧
    (Takes s m rest 0x05 →
      (r.body.length ≠ 1 → Serves .queueQuery s false id r .malformed []) ∧
      (∀ b : Byte, r.body = [b] → 14 < b.toNat → Serves .queueQuery s false id r .range []) ∧
      (∀ (b : Byte) (q : QueueId), r.body = [b] → q.val = b.toNat →
        let x := s.queue q
        let free := 512 - ∑ k : QueueId, (s.queue k).entries.length
        let reserve := ∑ k : QueueId, ((s.queue k).floor - (s.queue k).entries.length)
        let head : List Byte :=
          match x.entries with
          | [] => [0, 0, 0]
          | e :: _ =>
            ((if e.marked = true then 0xC0#8 else 0x80#8) |||
              (match e.source with
                | .trunk => 0
                | .tributary n => BitVec.ofNat 8 (n.val + 1)
                | .agent => 5
                | .notice => 6)) :: bytes16 (e.cell.tag.setWidth 16)
        Serves .queueQuery s false id r .ok
          ([b] ++ natBytes16 x.entries.length ++ natBytes16 x.floor ++ natBytes16 x.ceiling ++ natBytes16 free ++
            natBytes16 reserve ++ bytes32 x.admitted ++ bytes32 x.refused ++ bytes32 x.flushed ++ head))) ∧
    (Takes s m rest 0x06 →
      (r.body.length ≠ 1 → Serves .portQuery s false id r .malformed []) ∧
      (∀ b : Byte, r.body = [b] → 3 < b.toNat → Serves .portQuery s false id r .range []) ∧
      (∀ (b : Byte) (n : PortId), r.body = [b] → n.val = b.toNat →
        let p := s.port n
        let grantable : Nat :=
          if p.state = .up then min 255 ((s.queue (aq n)).floor - (s.queue (aq n)).entries.length - p.addCredits) else 0
        Serves .portQuery s false id r .ok
          ([b,
            match p.state with | .off => 0 | .down => 1 | .aligning => 2 | .up => 3,
            BitVec.ofBool p.signal ++ BitVec.ofBool p.stallReported ++ BitVec.ofBool p.alignPending ++
              BitVec.ofBool (decide (n = 0 ∧ s.agent.lmgt = true)) ++ 0#4,
            p.token, BitVec.ofNat 8 p.dropCredit] ++ natBytes16 p.addCredits ++ natBytes16 grantable ++
          bytes32 p.ctr.arrivals ++ bytes32 p.ctr.dataReceived ++ bytes32 p.ctr.cellsSent ++
          bytes32 p.ctr.addRefused ++ bytes32 p.ctr.creditViolations ++ bytes32 p.ctr.linkErrors ++
          bytes32 p.ctr.linkIgnored ++ bytes32 p.ctr.upsLost ++ bytes32 p.ctr.silences ++ bytes32 p.ctr.notUp)))

/-- ENTRY_READ and TABLE_SCAN: the image, counts and revision of one record, and the tags in use in ascending order up to 24, to
the end of the table or to a bank that is UPDATING; BUSY where an UPDATING bank stands in the way. Neither evaluates a record
check or changes a record (R71 to R74). The empty body of a MALFORMED or RANGE answer is the model's choice (log entry 14). -/
def Obligations.TheTableIsRead : Prop :=
  ∀ (m : HandCell) (rest : List HandCell) (s : State), Reaches s m →
    let r := m.request
    let inUse (n : Nat) : Bool := decide ((s.record n).content.state ≠ .vacant)
    let updating (n : Nat) : Prop := s.bank (Fin.ofNat 4 (n / 1024)) = .updating
    (Takes s m rest 0x03 →
      (r.body.length ≠ 2 → Serves .entryRead s false id r .malformed []) ∧
      (∀ hi lo : Byte, r.body = [hi, lo] →
        let w := hi ++ lo
        (4094 < w.toNat → Serves .entryRead s false id r .range []) ∧
        (w.toNat ≤ 4094 → updating w.toNat → Serves .entryRead s false id r .busy []) ∧
        (w.toNat ≤ 4094 → ¬updating w.toNat →
          let c := (s.record w.toNat).content
          Serves .entryRead s false id r .ok
            (imageOf (w.setWidth 12) c ++ bytes32 c.accepted ++ bytes32 c.refused ++ [c.revision])))) ∧
    (Takes s m rest 0x04 →
      (r.body.length ≠ 2 → Serves .tableScan s false id r .malformed []) ∧
      (∀ hi lo : Byte, r.body = [hi, lo] →
        let start := (hi ++ lo).toNat
        let stuck := ∃ n, start ≤ n ∧ n < 4095 ∧ updating n ∧ ∀ k, start ≤ k → k < n → inUse k = false
        (4094 < start → Serves .tableScan s false id r .range []) ∧
        (start ≤ 4094 → stuck → Serves .tableScan s false id r .busy []) ∧
        (start ≤ 4094 → ¬stuck →
          ∃ next, start < next ∧ next ≤ 4095 ∧
            let tags := (List.range' start (next - start)).filter inUse
            (∀ k, start ≤ k → k < next → ¬updating k) ∧ tags.length ≤ 24 ∧
            (tags.length = 24 → inUse (next - 1) = true) ∧
            (tags.length < 24 → next = 4095 ∨ next % 1024 = 0 ∧ updating next) ∧
            Serves .tableScan s false id r .ok (natBytes16 next ++ tags.flatMap natBytes16))))

/-- NODE_SET: a selected field out of range is answered RANGE with its mask bit and changes nothing; otherwise every selected
setting changes, and a selected destination is told to the Notice Unit, which stops with its ack timer and its flag cleared,
resends the AWAITING entry or sends the oldest, as its delivery state afterwards shows (R154, R181, R182, R185). The
empty body of MALFORMED is the model's choice (log entry 14). -/
def Obligations.NodeSetChangesTheSettings : Prop :=
  ∀ (m : HandCell) (rest : List HandCell) (s : State), Takes s m rest 0x10 → Reaches s m →
    let r := m.request
    (r.body.length ≠ 7 → Serves .nodeSet s true id r .malformed []) ∧
    ∀ mask act hop dest a1 a0 period : Byte, r.body = [mask, act, hop, dest, a1, a0, period] →
      let ack := a1 ++ a0
      let bad (k : Fin 5) : Prop :=
        mask.getLsbD k.val = true ∧
        match k with
        | 0 => 1 < act.toNat
        | 1 => hop.toNat = 0 ∨ 15 < hop.toNat
        | 2 => dest = 254 ∧ s.agent.lmgt = false
        | 3 => ack.toNat < 10 ∨ 1000 < ack.toNat
        | 4 => period = 0
      let x := s.agent.settings
      let settings : Settings :=
        { unknownTag := if mask.getLsbD 0 = true then (if act = 0 then .pass else .sink) else x.unknownTag
          hopLimit := if mask.getLsbD 1 = true then hop.setWidth 4 else x.hopLimit
          destination :=
            if mask.getLsbD 2 = true then
              (if dest = 255 then none else if dest = 254 then some .localMgr else some (.trunk dest))
            else x.destination
          ackTimeout := if mask.getLsbD 3 = true then ack else x.ackTimeout
          leasePeriod := if mask.getLsbD 4 = true then period else x.leasePeriod }
      let set (u : State) : State := { u with agent := { u.agent with settings := settings } }
      let told (u : State) : State := { set u with notices := { u.notices with unreachable := false } }
      let leaves (n : Notices) : Prop := ∃ t, exec .nodeSet s = .next t ∧ t.notices = n
      let body : List Byte :=
        [match settings.unknownTag with | .pass => 0 | .sink => 1, settings.hopLimit.setWidth 8,
          originCode settings.destination] ++ bytes16 settings.ackTimeout ++ [settings.leasePeriod]
      (∀ k : Fin 5, bad k → (∀ j, j < k → ¬bad j) → Serves .nodeSet s true id r .range [BitVec.ofNat 8 k.val]) ∧
      ((∀ k, ¬bad k) →
        (mask.getLsbD 2 = false → Serves .nodeSet s true set r .ok body) ∧
        (mask.getLsbD 2 = true →
          (settings.destination = none →
            Serves .nodeSet s true
              (fun u => { set u with notices := { u.notices with unreachable := false, ackTimer := none } }) r .ok body ∧
            leaves { s.notices with unreachable := false, ackTimer := none }) ∧
          (∀ o, settings.destination = some o →
            (∀ e, s.notices.queue.head? = some e → e.awaiting = true →
              Serves .nodeSet s true (fun u => (told u).resendNotice o e 0) r .ok body ∧
              leaves { s.notices with unreachable := false, retry := 0, ackTimer := some settings.ackTimeout }) ∧
            (∀ e es, s.notices.queue = e :: es → e.awaiting = false →
              Serves .nodeSet s true (fun u => (told u).sendOldest) r .ok body ∧
              leaves
                { s.notices with
                  queue := { e with awaiting := true } :: es
                  unreachable := false
                  retry := 0
                  ackTimer := some settings.ackTimeout }) ∧
            (s.notices.queue = [] →
              Serves .nodeSet s true told r .ok body ∧ leaves { s.notices with unreachable := false }))))

/-- QUEUE_SET and QUEUE_FLUSH: the checks of QUEUE_SET in order, with the reasons of REFUSED, then the new floor and ceiling; the
flush of one queue, which leaves it empty, a management queue too, but for the response itself, and lets a WAITING batch begin
when it is the Hold Queue's (R51, R84, R88 to R90). The empty body of a MALFORMED or RANGE answer is the model's choice (log
entry 14). -/
def Obligations.QueuesAreSetAndFlushed : Prop :=
  ∀ (m : HandCell) (rest : List HandCell) (s : State), Reaches s m →
    let r := m.request
    (Takes s m rest 0x11 →
      (r.body.length ≠ 5 → Serves .queueSet s true id r .malformed []) ∧
      ∀ b f1 f0 c1 c0 : Byte, r.body = [b, f1, f0, c1, c0] →
        (14 < b.toNat → Serves .queueSet s true id r .range []) ∧
        ∀ q : QueueId, q.val = b.toNat →
          let x := s.queue q
          let floor := (f1 ++ f0).toNat
          let isAdd := 8 ≤ q.val ∧ q.val ≤ 11
          let ceiling := if isAdd then floor else (c1 ++ c0).toNat
          let credits := ∑ n : PortId, if aq n = q then (s.port n).addCredits else 0
          let free := 512 - ∑ k : QueueId, (s.queue k).entries.length
          let reserve := ∑ k : QueueId, ((s.queue k).floor - (s.queue k).entries.length)
          let newReserve := ∑ k : QueueId, ((if k = q then floor else (s.queue k).floor) - (s.queue k).entries.length)
          let inRange := 1 ≤ ceiling ∧ ceiling ≤ 512 ∧ floor ≤ ceiling ∧ ((q = 13 ∨ q = 14) → 2 ≤ floor)
          let refusal (reason : Byte) : List Byte :=
            [b, reason] ++ natBytes16 x.entries.length ++ natBytes16 free ++ natBytes16 reserve ++ natBytes16 credits
          (¬inRange → Serves .queueSet s true id r .range []) ∧
          (inRange → ceiling < x.entries.length → Serves .queueSet s true id r .refused (refusal 1)) ∧
          (inRange → x.entries.length ≤ ceiling → free < newReserve →
            Serves .queueSet s true id r .refused (refusal 2)) ∧
          (inRange → x.entries.length ≤ ceiling → newReserve ≤ free → isAdd → floor < x.entries.length + credits →
            Serves .queueSet s true id r .refused (refusal 3)) ∧
          (inRange → x.entries.length ≤ ceiling → newReserve ≤ free →
            (isAdd → x.entries.length + credits ≤ floor) →
            Serves .queueSet s true (fun u => u.setQueue q { x with floor := floor, ceiling := ceiling }) r .ok
              ([b] ++ natBytes16 floor ++ natBytes16 ceiling))) ∧
    (Takes s m rest 0x12 →
      (r.body.length ≠ 1 → Serves .queueFlush s true id r .malformed []) ∧
      ∀ b : Byte, r.body = [b] →
        (14 < b.toNat → Serves .queueFlush s true id r .range []) ∧
        ∀ q : QueueId, q.val = b.toNat →
          let flushed (u : State) : State :=
            u.setQueue q
              { s.queue q with
                entries := []
                flushed := (s.queue q).flushed + BitVec.ofNat 32 (s.queue q).entries.length }
          let body : List Byte := [b] ++ natBytes16 (s.queue q).entries.length
          let own : QueueId := match m.origin with | .trunk _ => mqt | .localMgr => mql
          Serves .queueFlush s true (fun u => if q = 12 then (flushed u).tryStart else flushed u) r .ok body ∧
          (rest = [] → s.notices.unreachable = false → QueueLaws s →
            ∃ t, exec .queueFlush s = .next t ∧
              (q ≠ own → (t.queue q).entries = []) ∧
              (q = own → (t.queue q).entries =
                [{ cell := s.response m.origin m.cell.reqSeq 0x12 .ok body, source := .agent, marked := false }])))

/-- PORT_SET, COUNTERS_CLEAR and ASSIGN_ADDRESS: a port is disabled or enabled from whatever state it is in, with the reports of
its changes; every counter outside the records goes to 0, those of the Agent, the Notice Unit and the management queues too, after
which the response is the first that they count; and a matching unit number gives the node its address (R84, R126, R137, R155,
R159). The empty body of a MALFORMED or RANGE answer is the model's choice (log entry 14). -/
def Obligations.PortsCountersAndAddressAreSet : Prop :=
  ∀ (m : HandCell) (rest : List HandCell) (s : State), Reaches s m →
    let r := m.request
    (Takes s m rest 0x13 →
      (r.body.length ≠ 2 → Serves .portSet s true id r .malformed []) ∧
      ∀ b setting : Byte, r.body = [b, setting] →
        ((3 < b.toNat ∨ 1 < setting.toNat) → Serves .portSet s true id r .range []) ∧
        ∀ n : PortId, n.val = b.toNat →
          let p := s.port n
          let change (x : Byte) : Handed :=
            { block := .port n, report := { type := .linkChange, subject := BitVec.ofNat 16 n.val, detail := .code x } }
          let left (u : State) : State := if p.state = .up then u.leaveUp n else u
          let quiet : Port :=
            if p.state = .aligning then { p with alignPending := false, resendTimer := false, stallTimer := false }
            else (left s).port n
          (setting = 0 → p.state = .off → Serves .portSet s true id r .ok [b, 0]) ∧
          (setting = 0 → p.state ≠ .off →
            Serves .portSet s true
              (fun u =>
                State.setPort { left u with handed := u.handed ++ [change 0] } n { quiet with state := .off, sending := none })
              r .ok [b, 0]) ∧
          (setting = 1 → p.state ≠ .off → Serves .portSet s true id r .ok [b, p.state.code.setWidth 8]) ∧
          (setting = 1 → p.state = .off → p.signal = false →
            Serves .portSet s true
              (fun u => State.setPort { u with handed := u.handed ++ [change 1] } n { p with state := .down }) r .ok
              [b, 1]) ∧
          (setting = 1 → p.state = .off → p.signal = true →
            Serves .portSet s true
              (fun u =>
                State.setPort { u with handed := u.handed ++ [change 1, change 2] } n
                  { p with
                    state := .aligning
                    token := p.token + 1
                    alignPending := true
                    resendTimer := true
                    stallTimer := true
                    stallReported := false }) r .ok [b, 2])) ∧
    (Takes s m rest 0x14 →
      (r.body ≠ [] → Serves .countersClear s true id r .malformed []) ∧
      (r.body = [] →
        ∃ cleared : State → State,
          (∀ u n, (cleared u).port n = { u.port n with ctr := {} }) ∧
          (∀ u q, (cleared u).queue q = { u.queue q with admitted := 0, refused := 0, flushed := 0 }) ∧
          (∀ u, cleared u =
            { u with
              rx := {}, steer := {}, sched := {}, agentCtr := {}, noticeCtr := {}
              ports := (cleared u).ports, queues := (cleared u).queues }) ∧
          Serves .countersClear s true cleared r .ok [] ∧
          (rest = [] → s.notices.unreachable = false →
            let own : QueueId := match m.origin with | .trunk _ => mqt | .localMgr => mql
            s.admits own = true →
            ∃ t, exec .countersClear s = .next t ∧ t.agentCtr = { responsesQueued := 1 } ∧ t.noticeCtr = {} ∧
              ∀ q, (t.queue q).admitted = (if q = own then 1 else 0) ∧ (t.queue q).refused = 0 ∧
                (t.queue q).flushed = 0))) ∧
    (Takes s m rest 0x16 →
      let leased := s.agent.address.isSome
      (r.body.length ≠ 5 → Serves .assignAddress s leased id r .malformed []) ∧
      ∀ a u3 u2 u1 u0 : Byte, r.body = [a, u3, u2, u1, u0] →
        (253 < a.toNat → Serves .assignAddress s leased id r .range []) ∧
        (a.toNat ≤ 253 → u3 ++ u2 ++ u1 ++ u0 ≠ s.agent.unitNumber →
          Serves .assignAddress s leased id r .notUnnumbered []) ∧
        (a.toNat ≤ 253 → u3 ++ u2 ++ u1 ++ u0 = s.agent.unitNumber →
          Serves .assignAddress s leased (fun u => { u with agent := { u.agent with address := some a } }) r .ok
            [a, u3, u2, u1, u0]))

/-- NODE_RESET: the banks, the batch, the lease, every queue, the ports, every counter, the origin table and the Notice Unit as its
steps leave them, with the records, settings, address, notice number and TIN kept; the response comes first in its management
queue, the other queues are empty; then the reports of the Update Engine and of the ports are taken in their order, and last the
Agent goes on with the cells behind the request (R68, R84, R92, R140, R159, R188, R194 to R196). A second clause writes out the
notice queue where the destination is NONE and no such report waited. That a report of these blocks which waited is taken within
the step too is the model's choice (log entry 9), the `past` in which it keeps the requests from before the NODE-RESET its reading
(log entry 28), and the empty body of MALFORMED its choice (log entry 14). -/
def Obligations.NodeResetResetsTheNode : Prop :=
  ∀ (m : HandCell) (rest : List HandCell) (s : State), Takes s m rest 0x15 → Reaches s m →
    let r := m.request
    (r.body ≠ [] → Serves .nodeReset s true id r .malformed []) ∧
    (r.body = [] → 2 ≤ (s.queue mqt).floor → 2 ≤ (s.queue mql).floor →
      ∀ busy : Byte,
        (s.batch.state ≠ .applying → busy = 255) →
        (s.batch.state = .applying → ∃ b, s.bank b = .updating ∧ (∀ k, s.bank k = .updating → k = b) ∧
          busy = BitVec.ofNat 8 b.val) →
      let body : List Byte :=
        [match s.batch.state with | .none => 0 | .opened => 1 | .waiting => 2 | .applying => 3, s.batch.id, busy] ++
        natBytes16 (∑ q : QueueId, (s.queue q).entries.length) ++
        [if s.batch.state = .applying then BitVec.ofNat 8 s.batch.outcomes.length else 0]
      let response := s.response m.origin m.cell.reqSeq 0x15 .ok body
      let own : QueueId := match m.origin with | .trunk _ => mqt | .localMgr => mql
      let ofReset (h : Handed) : Bool :=
        match h.block with
        | .updateEngine | .port _ => true
        | .trunkReceiver | .steering | .leaseLogic => false
      let changes (n : PortId) : List Byte :=
        (if (s.port n).state = .aligning ∨ (s.port n).state = .up then [1] else []) ++
        (if (s.port n).state ≠ .off ∧ (s.port n).signal = true then [2] else [])
      let reports : List Report :=
        ((s.handed.filter ofReset).map Handed.report) ++
        ([0, 1, 2, 3] : List PortId).flatMap fun n => (changes n).map fun x =>
          { type := .linkChange, subject := BitVec.ofNat 16 n.val, detail := .code x }
      ∃ t : State,
        (∀ b, t.bank b = if s.bank b = .updating then .serving else s.bank b) ∧
        (∀ q, t.queue q =
          { entries := if q = own then [{ cell := response, source := .agent, marked := false }] else []
            floor := (s.queue q).floor
            ceiling := (s.queue q).ceiling
            admitted := if q = own then 1 else 0
            refused := 0
            flushed := 0 }) ∧
        (∀ n : PortId,
          let p := s.port n
          let left : Port :=
            match p.state with
            | .up => { p with dropCredit := 0, addCredits := 0, silenceTimer := false }
            | .aligning => { p with alignPending := false, resendTimer := false, stallTimer := false }
            | .down | .off => p
          t.port n =
            if p.state = .off then { p with stallReported := false, ctr := {} }
            else if p.signal = true then
              { left with
                state := .aligning
                token := p.token + 1
                alignPending := true
                resendTimer := true
                stallTimer := true
                stallReported := false
                ctr := {} }
            else { left with state := .down, stallReported := false, ctr := {} }) ∧
        t =
          { s with
            banks := t.banks
            queues := t.queues
            ports := t.ports
            batch :=
              { s.batch with state := .none, staging := [], abortPending := false, commit := none, outcomes := [] }
            lease := .free
            rx := {}, steer := {}, sched := {}, agentCtr := { responsesQueued := 1 }, noticeCtr := {}
            agent := { s.agent with
              hands := rest
              origins :=
                [{ origin := m.origin, lastSeq := m.cell.reqSeq, resp := .cached response, owed := none }]
              past :=
                (if s.agent.past.any fun p => decide (p.origin = m.origin) then []
                 else
                  [{ origin := m.origin, latest := m.cell.reqSeq, since := [m.cell.reqSeq], anew := [],
                     reset := some m.cell.reqSeq }]) ++
                s.agent.past.map fun p =>
                  let newer (x last : BitVec 16) : Bool := decide (1 ≤ (x - last).toNat ∧ (x - last).toNat ≤ 32767)
                  let latest := if newer m.cell.reqSeq p.latest then m.cell.reqSeq else p.latest
                  if p.origin = m.origin then
                    { p with
                      latest := latest
                      since := [m.cell.reqSeq]
                      anew := (p.since ++ p.anew).filter fun x => decide (x ≠ m.cell.reqSeq ∧ newer x latest = false)
                      reset := some m.cell.reqSeq }
                  else { p with since := [], anew := p.since ++ p.anew, reset := none } }
            notices :=
              { queue := [], nextNumber := s.notices.nextNumber, lost := 0, retry := 0, ackTimer := none,
                unreachable := false }
            handed := s.handed.filter fun h => !ofReset h } ∧
        exec .nodeReset s = .next (settleHands rest (reports.foldl State.takeReport t)) ∧
        (rest = [] → s.agent.settings.destination = none → s.handed.filter ofReset = [] →
          let moved := ([0, 1, 2, 3] : List PortId).filter fun n => decide (changes n ≠ [])
          let taken : Counter := BitVec.ofNat 32 reports.length
          let created : Counter := BitVec.ofNat 32 moved.length
          exec .nodeReset s = .next
            { t with
              notices := { t.notices with
                queue := moved.zipIdx.map fun x =>
                  { number := s.notices.nextNumber + BitVec.ofNat 16 x.2, type := .linkChange
                    subject := BitVec.ofNat 16 x.1.val, detail := .code ((changes x.1).getLastD 0)
                    repeats := (changes x.1).length, awaiting := false }
                nextNumber := s.notices.nextNumber + BitVec.ofNat 16 moved.length }
              noticeCtr := { reportsTaken := taken, reportsCoalesced := taken - created, entriesCreated := created } }))

/-! ### The batch -/

/-- BATCH_OPEN and BATCH_EDIT: the checks of each in order, then the batch opened with its id and policy, or the images appended
to the staging list, all or none (R44 to R47). The empty body of a MALFORMED or RANGE answer to BATCH_OPEN, and of a MALFORMED
one to BATCH_EDIT, is the model's choice (log entry 14). -/
def Obligations.BatchesAreOpenedAndStaged : Prop :=
  ∀ (m : HandCell) (rest : List HandCell) (s : State), Reaches s m →
    let r := m.request
    let stateAndId : List Byte :=
      [match s.batch.state with | .none => 0 | .opened => 1 | .waiting => 2 | .applying => 3, s.batch.id]
    (Takes s m rest 0x20 →
      (r.body.length ≠ 2 → Serves .batchOpen s true id r .malformed []) ∧
      ∀ bid code : Byte, r.body = [bid, code] →
        ((bid = 0 ∨ 2 < code.toNat) → Serves .batchOpen s true id r .range []) ∧
        (bid ≠ 0 → code.toNat ≤ 2 →
          (s.batch.state = .none →
            Serves .batchOpen s true
              (fun u => { u with batch := { u.batch with
                  state := .opened
                  id := bid
                  policy := some (if code = 0 then .hold else if code = 1 then .pass else .discard)
                  staging := [] } }) r .ok [bid, code]) ∧
          (s.batch.state = .opened →
            Serves .batchOpen s true id r .batchOpen [s.batch.id, BitVec.ofNat 8 s.batch.staging.length]) ∧
          ((s.batch.state = .waiting ∨ s.batch.state = .applying) →
            Serves .batchOpen s true id r .busy stateAndId))) ∧
    (Takes s m rest 0x21 →
      (r.body.length ≠ 13 ∧ r.body.length ≠ 25 ∧ r.body.length ≠ 37 ∧ r.body.length ≠ 49 →
        Serves .batchEdit s true id r .malformed []) ∧
      ∀ (bid : Byte) (images : List Image), r.body = bid :: images.flatten → (∀ i ∈ images, i.length = 12) →
        1 ≤ images.length → images.length ≤ 4 →
        ((s.batch.state ≠ .opened ∨ bid ≠ s.batch.id) → Serves .batchEdit s true id r .noBatch stateAndId) ∧
        (s.batch.state = .opened → bid = s.batch.id →
          (∀ k i, images[k]? = some i → editOf i = none → (∀ j < k, ∀ x, images[j]? = some x → editOf x ≠ none) →
            Serves .batchEdit s true id r .range [BitVec.ofNat 8 k]) ∧
          ((∀ i ∈ images, editOf i ≠ none) → 64 < s.batch.staging.length + images.length →
            Serves .batchEdit s true id r .full [BitVec.ofNat 8 s.batch.staging.length]) ∧
          ((∀ i ∈ images, editOf i ≠ none) → s.batch.staging.length + images.length ≤ 64 →
            Serves .batchEdit s true
              (fun u => { u with batch := { u.batch with staging := u.batch.staging ++ images } }) r .ok
              [bid, BitVec.ofNat 8 (s.batch.staging.length + images.length)])))

/-- BATCH_COMMIT and BATCH_ABORT: the checks of each in order, with the digest written out bit by bit. An accepted commit sends no
response, makes its origin's entry PENDING, renews the lease, and begins at once when the Hold Queue is empty: the lowest touched
bank becomes UPDATING, or an empty batch is answered OK. An abort ends an OPEN batch, ends a WAITING one with its ABORTED commit
response first, whereupon an OVERDUE lease is released and its loss reported, and marks an APPLYING one (R48 to R51, R53, R64 to
R66, R145, R173). The empty body of a MALFORMED answer to BATCH_COMMIT, and that the batch id which a MALFORMED or NO-BATCH answer to
an abort carries is the node's own, are the model's choice (log entries 14 and 23). -/
def Obligations.BatchesAreCommittedAndAborted : Prop :=
  ∀ (m : HandCell) (rest : List HandCell) (s : State), Reaches s m →
    let r := m.request
    let stateCode : Byte := match s.batch.state with | .none => 0 | .opened => 1 | .waiting => 2 | .applying => 3
    let falls (b : BankId) (i : Image) : Prop := ∃ e, editOf i = some e ∧ e.bank = b
    let ended : Batch :=
      { s.batch with state := .none, staging := [], abortPending := false, commit := none, outcomes := [] }
    let digest : BitVec 16 :=
      (s.batch.staging.flatten.flatMap fun b => (List.range 8).map fun k => b.getLsbD (7 - k)).foldl
        (fun (x : BitVec 16) bit => if x.msb = bit then x <<< 1 else (x <<< 1) ^^^ 0x1021#16) 0xFFFF#16
    let onEntry (u : State) (o : Origin) (f : OriginEntry → OriginEntry) : State :=
      { u with agent := { u.agent with origins := u.agent.origins.map fun e => if e.origin = o then f e else e } }
    let delivered (u : State) (o : Origin) (seq : BitVec 16) (st : Status) (body : List Byte) : State :=
      let cell := s.response o seq 0x22 st body
      State.offerResponse
        (onEntry { u with batch := ended } o fun e =>
          { e with owed := none, resp := if e.lastSeq = seq then .cached cell else e.resp }) o cell
    let released (u : State) : State :=
      match s.lease with
      | .overdue o =>
        { u with
          lease := .free
          handed := u.handed ++ [{ block := .leaseLogic, report :=
            { type := .leaseLost, subject := o.code.setWidth 16, detail := .code 1 } }] }
      | .free | .held _ _ => u
    (Takes s m rest 0x22 →
      (r.body.length ≠ 4 → Serves .batchCommit s true id r .malformed []) ∧
      ∀ bid count d1 d0 : Byte, r.body = [bid, count, d1, d0] →
        ((s.batch.state = .waiting ∨ s.batch.state = .applying) →
          Serves .batchCommit s true id r .busy [stateCode, s.batch.id]) ∧
        ((s.batch.state = .none ∨ s.batch.state = .opened ∧ bid ≠ s.batch.id) →
          Serves .batchCommit s true id r .noBatch [stateCode, s.batch.id]) ∧
        (s.batch.state = .opened → bid = s.batch.id →
          (count.toNat ≠ s.batch.staging.length →
            Serves .batchCommit s true id r .count [BitVec.ofNat 8 s.batch.staging.length]) ∧
          (count.toNat = s.batch.staging.length → d1 ++ d0 ≠ digest →
            Serves .batchCommit s true id r .digest (bytes16 digest)) ∧
          (count.toNat = s.batch.staging.length → d1 ++ d0 = digest →
            let accepted (x : BatchState) (u : State) : State :=
              onEntry { u with batch := { s.batch with state := x, commit := some (m.origin, m.cell.reqSeq) } } m.origin
                fun e => { e with resp := .pending, owed := some m.cell.reqSeq }
            let leaves (u : State) : Prop :=
              exec .batchCommit s = .next (settleHands rest (u.concluded true r .accepted))
            let owing (x : BatchState) (banks : Vector BankState 4) : Prop :=
              leaves { accepted x (s.entered m rest) with banks := banks } ∧
              ∃ t, exec .batchCommit s = .next t ∧
                t.lease = .held m.origin s.agent.settings.leasePeriod.toNat ∧
                (∃ e, t.entryOf m.origin = some e ∧ e.lastSeq = m.cell.reqSeq ∧ e.resp = .pending ∧
                  e.owed = some m.cell.reqSeq) ∧
                (rest = [] → s.notices.unreachable = false →
                  t.queues = s.queues ∧ t.agentCtr = (s.entered m rest).agentCtr)
            ((s.queue hq).entries ≠ [] → owing .waiting s.banks) ∧
            ((s.queue hq).entries = [] →
              ∀ b : BankId, (∃ i ∈ s.batch.staging, falls b i) → (∀ k < b, ∀ i ∈ s.batch.staging, ¬falls k i) →
              owing .applying (s.banks.set b.val .updating b.isLt)) ∧
            ((s.queue hq).entries = [] → s.batch.staging = [] →
              leaves
                (released
                  (delivered (accepted .waiting (s.entered m rest)) m.origin m.cell.reqSeq .ok
                    [bid, 0, 0, 0, 0, 0, 0, 0])))))) ∧
    (Takes s m rest 0x23 →
      (r.body.length ≠ 1 → Serves .batchAbort s true id r .malformed [s.batch.id, stateCode]) ∧
      ∀ bid : Byte, r.body = [bid] →
        ((s.batch.state = .none ∨ bid ≠ s.batch.id ∨ bid = 0) →
          Serves .batchAbort s true id r .noBatch [s.batch.id, stateCode]) ∧
        (bid = s.batch.id → bid ≠ 0 →
          (s.batch.state = .opened → Serves .batchAbort s true (fun u => { u with batch := ended }) r .ok [bid, 0]) ∧
          (s.batch.state = .applying →
            Serves .batchAbort s true (fun u => { u with batch := { u.batch with abortPending := true } }) r .ok [bid, 3]) ∧
          (s.batch.state = .waiting → ∀ o seq, s.batch.commit = some (o, seq) →
            ∀ touched : Byte, (∀ b : BankId, touched.getLsbD b.val = true ↔ ∃ i ∈ s.batch.staging, falls b i) →
            touched.toNat < 16 →
            Serves .batchAbort s true
              (fun u => released
                (delivered u o seq .aborted
                  [bid, BitVec.ofNat 8 s.batch.staging.length, touched, 0, 0, 0, 0, 0]))
              r .ok [bid, 0])))

/-! ### The lease -/

/-- LEASE_TAKE, LEASE_RENEW and LEASE_GIVE by the lease state, the holder and the batch state (R166 to R171). The seconds told of
another's running lease are a free value of the model, as for NODE_QUERY (log entry 8); the empty body of a MALFORMED or RANGE
answer is the model's choice (log entry 14). -/
def Obligations.TheLeaseIsTakenRenewedAndGiven : Prop :=
  ∀ (m : HandCell) (rest : List HandCell) (s : State), Reaches s m →
    let r := m.request
    let period := s.agent.settings.leasePeriod
    let mine (u : State) : State := { u with lease := .held m.origin period.toNat }
    let busy : List Byte :=
      [match s.batch.state with | .none => 0 | .opened => 1 | .waiting => 2 | .applying => 3, s.batch.id]
    let committed := s.batch.state = .waiting ∨ s.batch.state = .applying
    let dropped : Batch :=
      if s.batch.state = .opened then
        { s.batch with state := .none, staging := [], abortPending := false, commit := none, outcomes := [] }
      else s.batch
    (Takes s m rest 0x30 →
      (r.body.length ≠ 1 → Serves .leaseTake s false id r .malformed []) ∧
      ∀ force : Byte, r.body = [force] →
        (1 < force.toNat → Serves .leaseTake s false id r .range []) ∧
        (force.toNat ≤ 1 →
          (s.lease.holder = none → Serves .leaseTake s false mine r .ok [m.origin.code, period, 0]) ∧
          (s.lease.holder = some m.origin → Serves .leaseTake s false mine r .ok [m.origin.code, period, 1]) ∧
          (∀ o, s.lease.holder = some o → o ≠ m.origin →
            (force = 0 → s.lease = .overdue o → Serves .leaseTake s false id r .heldByOther [o.code, 0]) ∧
            (force = 0 → ∀ k, s.lease = .held o k → 1 ≤ k →
              ∃ seconds, 1 ≤ seconds ∧ seconds ≤ k ∧
                Serves .leaseTake s false (fun u => { u with lease := .held o seconds, draws := u.draws + 1 }) r
                  .heldByOther [o.code, BitVec.ofNat 8 seconds]) ∧
            (force = 1 → committed → Serves .leaseTake s false id r .busy busy) ∧
            (force = 1 → ¬committed →
              Serves .leaseTake s false
                (fun u => { mine u with
                  batch := dropped
                  handed := u.handed ++ [{ block := .leaseLogic, report :=
                    { type := .leaseLost, subject := o.code.setWidth 16, detail := .code 2 } }] })
                r .ok [m.origin.code, period, 2])))) ∧
    (Takes s m rest 0x31 →
      (r.body ≠ [] → Serves .leaseRenew s false id r .malformed []) ∧
      (r.body = [] → s.lease.holder = some m.origin → Serves .leaseRenew s false mine r .ok [period]) ∧
      (r.body = [] → s.lease.holder ≠ some m.origin →
        Serves .leaseRenew s false id r .notHolder [originCode s.lease.holder])) ∧
    (Takes s m rest 0x32 →
      (r.body ≠ [] → Serves .leaseGive s false id r .malformed []) ∧
      (r.body = [] → s.lease.holder ≠ some m.origin →
        Serves .leaseGive s false id r .notHolder [originCode s.lease.holder]) ∧
      (r.body = [] → s.lease.holder = some m.origin → committed → Serves .leaseGive s false id r .busy busy) ∧
      (r.body = [] → s.lease.holder = some m.origin → s.batch.state = .opened →
        Serves .leaseGive s false (fun u => { u with lease := .free, batch := dropped }) r .ok [1]) ∧
      (r.body = [] → s.lease.holder = some m.origin → s.batch.state = .none →
        Serves .leaseGive s false (fun u => { u with lease := .free }) r .ok [0]))

/-- LEASE_TIMER_EXPIRY of a HELD lease: with the batch NONE the lease becomes FREE and the loss is reported; with the batch OPEN
the batch is discarded first; with the batch WAITING or APPLYING the lease becomes OVERDUE and nothing is reported (R43, R172). -/
def Obligations.LeaseExpiryFollowsTheBatch : Prop :=
  ∀ (o : Origin) (k : Nat) (s : State), s.held = false → s.lease = .held o k →
    let lost : List Handed :=
      [{ block := .leaseLogic, report :=
        { type := .leaseLost
          subject := match o with | .trunk a => a.setWidth 16 | .localMgr => 254
          detail := .code 1 } }]
    (s.batch.state = .none →
      exec .leaseTimerExpiry s = .next { s with lease := .free, handed := s.handed ++ lost }) ∧
    (s.batch.state = .opened →
      exec .leaseTimerExpiry s = .next
        { s with
          lease := .free
          handed := s.handed ++ lost
          batch := { s.batch with state := .none, staging := [], abortPending := false, commit := none, outcomes := [] } }) ∧
    ((s.batch.state = .waiting ∨ s.batch.state = .applying) →
      exec .leaseTimerExpiry s = .next { s with lease := .overdue o })

/-! ### Notices -/

/-- Sending the oldest notice, and resending the AWAITING one: the NOTICE cell by its fields, offered to the management queue of
the destination, with its type code written out; a refused claim is counted and is an attempt all the same; the ack timer starts
at the ack timeout as it stands (R177, R181, R182). -/
def Obligations.NoticesAreSentAsCells : Prop :=
  ∀ (o : Origin) (e : NoticeEntry) (s : State),
    let cell : Cell :=
      { tag := 4095, kind := .mgmt, cls := 3, seq := 0, hop := s.agent.settings.hopLimit, last := true, spare := 0
        len := 16, spareLen := 0
        payload :=
          [match o with | .trunk a => a | .localMgr => 255, s.agent.address.getD 254] ++ bytes16 e.number ++
          [0x40, 0x80, 0x00, 0x08,
           match e.type with
           | .quotaSpent => 1 | .seqGap => 2 | .recordFault => 3 | .holdOverflow => 4 | .linkChange => 5
           | .alignStall => 6 | .trunkChange => 7 | .leaseLost => 8 | .noticesLost => 9] ++ bytes16 e.subject ++
          (match e.detail with
            | .none => [0, 0, 0, 0]
            | .sequences expected received => [expected, received, 0, 0]
            | .code c => [c, 0, 0, 0]
            | .count n => natBytes16 n ++ [0, 0]) ++
          [BitVec.ofNat 8 e.repeats] ++ List.replicate 42 0x00 }
    let q := match o with | .trunk _ => mqt | .localMgr => mql
    let x := s.queue q
    let offered (k : NoticeCounters) (n : Notices) : State :=
      if s.admits q = true then
        State.setQueue { s with noticeCtr := k, notices := n } q
          { x with
            entries := x.entries ++ [{ cell := cell, source := .notice, marked := false }]
            admitted := x.admitted + 1 }
      else
        State.setQueue { s with noticeCtr := { k with noticesRefused := k.noticesRefused + 1 }, notices := n } q
          { x with refused := x.refused + 1 }
    (∀ rest, s.agent.settings.destination = some o → s.notices.queue = e :: rest → e.awaiting = false →
      s.notices.unreachable = false →
      s.sendOldest = offered { s.noticeCtr with noticesSent := s.noticeCtr.noticesSent + 1 }
        { s.notices with
          queue := { e with awaiting := true } :: rest
          retry := 0
          ackTimer := some s.agent.settings.ackTimeout }) ∧
    ((s.agent.settings.destination = none ∨ s.notices.unreachable = true ∨
        ∀ y, s.notices.queue.head? = some y → y.awaiting = true) → s.sendOldest = s) ∧
    ∀ retry : Nat, s.resendNotice o e retry =
      offered { s.noticeCtr with noticesResent := s.noticeCtr.noticesResent + 1 }
        { s.notices with retry := retry, ackTimer := some s.agent.settings.ackTimeout }

/-- EVENT_REPORT: the oldest report of a block is combined with the UNSENT entry of its type and subject, or appended as a new
entry with the next number and sent when it is the oldest and may be, or lost when the queue is full (R177, R178, R181). That the
command names the block whose oldest report is taken, so that a report of one block may be taken before an earlier one of another
block, and that each port is a block of its own, are the model's choices (log entries 9 and 29). -/
def Obligations.ReportsAreTaken : Prop :=
  ∀ (b : Block) (r : Report) (before after : List Handed) (s : State),
    s.handed = before ++ { block := b, report := r } :: after → (∀ h ∈ before, h.block ≠ b) →
    let s' : State := { s with handed := before ++ after }
    let k := { s.noticeCtr with reportsTaken := s.noticeCtr.reportsTaken + 1 }
    let matching (e : NoticeEntry) : Prop := e.awaiting = false ∧ e.type = r.type ∧ e.subject = r.subject
    (∀ front back e, s.notices.queue = front ++ e :: back → matching e → (∀ x ∈ front ++ back, ¬matching x) →
      exec (.eventReport b) s = .next
        { s' with
          noticeCtr := { k with reportsCoalesced := k.reportsCoalesced + 1 }
          notices := { s.notices with
            queue := front ++ { e with detail := r.detail, repeats := min 255 (e.repeats + 1) } :: back } }) ∧
    ((∀ e ∈ s.notices.queue, ¬matching e) →
      (s.notices.queue.length < 16 →
        exec (.eventReport b) s = .next
          (State.sendOldest
            { s' with
              noticeCtr := { k with entriesCreated := k.entriesCreated + 1 }
              notices := { s.notices with
                queue := s.notices.queue ++
                  [{ number := s.notices.nextNumber, type := r.type, subject := r.subject, detail := r.detail,
                     repeats := 1, awaiting := false }]
                nextNumber := s.notices.nextNumber + 1 } })) ∧
      (16 ≤ s.notices.queue.length →
        exec (.eventReport b) s = .next
          { s' with
            noticeCtr := { k with reportsLost := k.reportsLost + 1 }
            notices := { s.notices with lost := min 65535 (s.notices.lost + 1) } }))

/-- NOTICE_ACK, ACK_TIMER_EXPIRY and contact: a matching acknowledgement removes the AWAITING entry, accounts for lost reports and
sends the next entry, and any other is ignored; an expiry resends up to four times and then makes delivery UNREACHABLE; contact
from the destination ends UNREACHABLE (R179, R182 to R184). That NOTICE_ACK, and not the arrival of the cell, raises
requests-consumed, and that the cells behind it wait for it, is the model's choice (log entry 10). -/
def Obligations.NoticesAreAcknowledged : Prop :=
  ∀ s : State,
    (∀ (m : HandCell) (rest : List HandCell), s.held = false → s.agent.hands = m :: rest → m.cell.flagged = false →
      (m.fromLocal = true ∨ m.cell.sourceByte.toNat ≤ 253) → m.cell.code = 0x41 →
      let k := s.noticeCtr
      let taken : State :=
        { s with
          agent := { s.agent with hands := rest }
          agentCtr := { s.agentCtr with
            requestsConsumed := s.agentCtr.requestsConsumed + 1
            acksForwarded := s.agentCtr.acksForwarded + 1 } }
      let matched := ∃ e es, s.notices.queue = e :: es ∧ e.awaiting = true ∧
        s.agent.settings.destination = some m.origin ∧ e.number = m.cell.reqSeq
      let removed (queue : List NoticeEntry) (next : BitVec 16) (created : Counter) : State :=
        { taken with
          notices := { s.notices with
            queue := queue, nextNumber := next, lost := 0, ackTimer := none, unreachable := false }
          noticeCtr := { k with acksMatched := k.acksMatched + 1, entriesCreated := created } }
      let lossEntry (e : NoticeEntry) : Prop := e.awaiting = false ∧ e.type = .noticesLost ∧ e.subject = 0
      (¬matched →
        exec .noticeAck s = .next
          (settleHands rest { taken with noticeCtr := { k with acksIgnored := k.acksIgnored + 1 } })) ∧
      (matched → s.notices.lost = 0 →
        exec .noticeAck s = .next
          (settleHands rest (removed s.notices.queue.tail s.notices.nextNumber k.entriesCreated).sendOldest)) ∧
      (matched → 0 < s.notices.lost → (∀ e ∈ s.notices.queue.tail, ¬lossEntry e) →
        exec .noticeAck s = .next
          (settleHands rest
            (removed
              (s.notices.queue.tail ++
                [{ number := s.notices.nextNumber, type := .noticesLost, subject := 0, detail := .count s.notices.lost,
                   repeats := 1, awaiting := false }])
              (s.notices.nextNumber + 1) (k.entriesCreated + 1)).sendOldest)) ∧
      (matched → 0 < s.notices.lost → ∀ front back e n, s.notices.queue.tail = front ++ e :: back → lossEntry e →
        e.detail = .count n → (∀ x ∈ front ++ back, ¬lossEntry x) →
        exec .noticeAck s = .next
          (settleHands rest
            (removed
              (front ++
                { e with detail := .count (min 65535 (n + s.notices.lost)), repeats := min 255 (e.repeats + 1) } :: back)
              s.notices.nextNumber k.entriesCreated).sendOldest))) ∧
    (∀ e es o, s.notices.queue = e :: es → e.awaiting = true → s.agent.settings.destination = some o →
      (s.held = false → s.notices.ackTimer ≠ none → s.notices.retry ≤ 3 →
        exec .ackTimerExpiry s = .next (s.resendNotice o e (s.notices.retry + 1))) ∧
      (s.held = false → s.notices.ackTimer ≠ none → 4 ≤ s.notices.retry →
        exec .ackTimerExpiry s = .next
          { s with
            notices := { s.notices with unreachable := true, ackTimer := none }
            noticeCtr := { s.noticeCtr with unreachables := s.noticeCtr.unreachables + 1 } }) ∧
      (s.notices.unreachable = true →
        s.contact o = State.resendNotice { s with notices := { s.notices with unreachable := false } } o e 0) ∧
      ∀ other, (other ≠ o ∨ s.notices.unreachable = false) → s.contact other = s)

/-! ### The apply -/

/-- The next edit of an apply is the first in list order that falls in the bank in progress and has no outcome (R52, R54); and
CLEAR_BANK, when it is next, clears every usable record of its bank, raises each revision, makes FAULTED and reports those whose
verify fails twice, and is FAILED with the lowest of them, or APPLIED (R1, R19, R62). What such a record keeps is as log entry 5
says. -/
def Obligations.EditsAreTakenInListOrder : Prop :=
  (∀ (b : BankId) (p : Nat) (image : Image) (e : Edit) (s : State), s.held = false → s.batch.state = .applying →
    (∀ k, s.bank k = .updating ↔ k = b) → s.batch.staging[p]? = some image → editOf image = some e → e.bank = b →
    (∀ x ∈ s.batch.outcomes, x.position ≠ p) →
    (∀ j i e', j < p → s.batch.staging[j]? = some i → editOf i = some e' → e'.bank = b →
      ∃ x ∈ s.batch.outcomes, x.position = j) →
    s.nextEdit = some (p, e)) ∧
  ∀ (vs : List (UsableTag × Verify)) (p : Nat) (b : BankId) (s : State), s.nextEdit = some (p, .clearBank b) →
    tableWf s.table = true →
    let verify (n : Nat) : Verify := ((vs.find? fun x => decide (x.1.val = n)).map Prod.snd).getD .stands
    let inBank (n : Nat) : Prop := n < 4095 ∧ n / 1024 = b.val
    let failed : List Nat :=
      (List.range 4095).filter fun n =>
        decide (n / 1024 = b.val) && match verify n with | .fails _ => true | .stands | .rewritten => false
    ∃ t, exec (.clearBank vs) s = .next t ∧
      (∀ n, ¬inBank n → t.record n = s.record n) ∧
      (∀ n, inBank n → (verify n = .stands ∨ verify n = .rewritten) →
        t.record n =
          { content := { Content.cleared with revision := (s.record n).content.revision + 1 }, good := true }) ∧
      (∀ n read, inBank n → verify n = .fails read →
        t.record n = { content := { read with state := .faulted (stateAction read.state) }, good := true }) ∧
      t = { s with
        table := t.table
        handed := s.handed ++ failed.map fun n =>
          { block := .updateEngine, report := { type := .recordFault, subject := BitVec.ofNat 16 n, detail := .code 2 } }
        batch := { s.batch with
          outcomes := s.batch.outcomes ++
            [{ position := p
               tag := failed.headD 0
               result := if failed = [] then .applied else .failed }] } }

/-- WRITE, CLEAR, REFILL, BAR and UNBAR, each as the next edit of the apply: which records each is carried out on, what it makes
of them with the revision raised, when it is SKIPPED, and what a write that fails twice leaves (R13, R56 to R61). That a record
whose write fails twice keeps the revision read back is the model's reading of R11, R14 and R55 (log entry 5). -/
def Obligations.EditsDoTheirOps : Prop :=
  ∀ (v : Verify) (p : Nat) (tag : Tag) (s : State),
    let n := tag.toNat
    let old := s.record n
    let c := old.content
    let outcome (x : EditOutcome) : Batch :=
      { s.batch with outcomes := s.batch.outcomes ++ [{ position := p, tag := n, result := x }] }
    let fault : List Handed :=
      [{ block := .updateEngine, report := { type := .recordFault, subject := tag.setWidth 16, detail := .code 2 } }]
    let stored (new : Content) : State :=
      match v with
      | .stands | .rewritten =>
        { s with
          table := tableWrite s.table n { content := { new with revision := c.revision + 1 }, good := true }
          batch := outcome .applied }
      | .fails read =>
        { s with
          table := tableWrite s.table n { content := { read with state := .faulted (stateAction read.state) }, good := true }
          handed := s.handed ++ fault
          batch := outcome .failed }
    let skipped : State := { s with batch := outcome .skipped }
    let damaged : State :=
      { s with
        table := tableWrite s.table n { content := { c with state := .faulted (stateAction c.state) }, good := true }
        handed := s.handed ++ fault
        batch := outcome .skipped }
    (∀ new, s.nextEdit = some (p, .write tag new) → exec (.write v) s = .next (stored new)) ∧
    (s.nextEdit = some (p, .clear tag) →
      exec (.clear v) s = .next
        (stored { state := .vacant, rewrite := none, classOv := none, source := none, expected := none, stamp := none,
                  quota := none, accepted := 0, refused := 0, revision := 0 })) ∧
    (∀ value, s.nextEdit = some (p, .refill tag value) →
      (old.good = false → exec (.refill v) s = .next damaged) ∧
      (old.good = true → (c.quota = none ∨ c.state = .vacant ∨ ∃ a, c.state = .faulted a) →
        exec (.refill v) s = .next skipped) ∧
      (old.good = true → c.quota ≠ none → ((∃ a, c.state = .opened a) ∨ ∃ a, c.state = .barred a) →
        exec (.refill v) s = .next (stored { c with quota := some value })) ∧
      (old.good = true → c.quota ≠ none → ∀ a, c.state = .spent a →
        exec (.refill v) s = .next (stored { c with quota := some value, state := .opened a }))) ∧
    (s.nextEdit = some (p, .bar tag) →
      (old.good = false → exec (.bar v) s = .next damaged) ∧
      (old.good = true → (c.state = .vacant ∨ (∃ a, c.state = .barred a) ∨ ∃ a, c.state = .faulted a) →
        exec (.bar v) s = .next skipped) ∧
      (old.good = true → ∀ a, (c.state = .opened a ∨ c.state = .spent a) →
        exec (.bar v) s = .next (stored { c with state := .barred a }))) ∧
    (s.nextEdit = some (p, .unbar tag) →
      (old.good = false → exec (.unbar v) s = .next damaged) ∧
      (old.good = true →
        (c.state = .vacant ∨ (∃ a, c.state = .opened a) ∨ (∃ a, c.state = .spent a) ∨ ∃ a, c.state = .faulted a) →
        exec (.unbar v) s = .next skipped) ∧
      (old.good = true → ∀ a, c.state = .barred a → c.quota = some 0 →
        exec (.unbar v) s = .next (stored { c with state := .spent a })) ∧
      (old.good = true → ∀ a, c.state = .barred a → c.quota ≠ some 0 →
        exec (.unbar v) s = .next (stored { c with state := .opened a })))

/-- APPLY_START and BANK_END: a WAITING batch whose Hold Queue is empty moves its lowest touched bank to UPDATING; a bank end
returns its bank to SERVING and moves on to the next touched bank, or completes the batch, cut when an abort is pending, with the
commit response of its account handed to the Agent and the lease told (R51, R53, R54, R63 to R65, R173). That APPLY_START
leaves the state as it is where no batch waits to start is the model's choice (log entry 2). -/
def Obligations.AppliesGoBankByBank : Prop :=
  ∀ s : State, s.held = false →
    let touches (b : BankId) : Prop := ∃ i ∈ s.batch.staging, ∃ e, editOf i = some e ∧ e.bank = b
    let ended : Batch :=
      { s.batch with state := .none, staging := [], abortPending := false, commit := none, outcomes := [] }
    let delivered (u : State) (o : Origin) (seq : BitVec 16) (st : Status) (body : List Byte) : State :=
      let cell := u.response o seq 0x22 st body
      let settled (e : OriginEntry) : OriginEntry :=
        if e.origin = o then { e with owed := none, resp := if e.lastSeq = seq then .cached cell else e.resp } else e
      State.offerResponse { u with agent := { u.agent with origins := u.agent.origins.map settled } } o cell
    let released (u : State) : State :=
      match s.lease with
      | .overdue o =>
        { u with
          lease := .free
          handed := s.handed ++ [{ block := .leaseLogic, report :=
            { type := .leaseLost, subject := o.code.setWidth 16, detail := .code 1 } }] }
      | .free | .held _ _ => u
    (s.batch.state = .waiting → (s.queue hq).entries = [] →
      (∀ b, touches b → (∀ k < b, ¬touches k) →
        exec .applyStart s = .next (State.setBank { s with batch := { s.batch with state := .applying } } b .updating)) ∧
      (s.batch.staging = [] → ∀ o seq, s.batch.commit = some (o, seq) →
        exec .applyStart s = .next
          (released (delivered { s with batch := ended } o seq .ok [s.batch.id, 0, 0, 0, 0, 0, 0, 0])))) ∧
    ((s.batch.state ≠ .waiting ∨ (s.queue hq).entries ≠ []) → exec .applyStart s = .next s) ∧
    (∀ b : BankId, s.batch.state = .applying → (∀ k, s.bank k = .updating ↔ k = b) → s.nextEdit = none →
      (∀ k, b < k → touches k → (∀ j, b < j → j < k → ¬touches j) → s.batch.abortPending = false →
        exec .bankEnd s = .next ((s.setBank b .serving).setBank k .updating)) ∧
      (((∀ k, b < k → ¬touches k) ∨ s.batch.abortPending = true) →
        ∀ o seq, s.batch.commit = some (o, seq) → ∀ touched applied : Byte,
        touched.toNat < 16 → (∀ k : BankId, touched.getLsbD k.val = true ↔ touches k) →
        applied.toNat < 16 → (∀ k : BankId, applied.getLsbD k.val = true ↔ touches k ∧ k ≤ b) →
        let count (x : EditOutcome) : Byte := BitVec.ofNat 8 (s.batch.outcomes.countP fun y => decide (y.result = x))
        let entries : List Outcome :=
          ((List.range s.batch.staging.length).filterMap fun p =>
            s.batch.outcomes.find? fun x => decide (x.position = p) && decide (x.result ≠ .applied)).take 8
        let status : Status :=
          if ∃ k, b < k ∧ touches k then .aborted
          else if ∀ x ∈ s.batch.outcomes, x.result = .applied then .ok
          else .partialDone
        exec .bankEnd s = .next
          (released (delivered (State.setBank { s with batch := ended } b .serving) o seq status
            ([s.batch.id, BitVec.ofNat 8 s.batch.staging.length, touched, applied, count .applied, count .skipped,
              count .failed, BitVec.ofNat 8 entries.length] ++
              entries.flatMap fun x =>
                BitVec.ofNat 8 x.position :: natBytes16 x.tag ++
                  [match x.result with | .applied => 1#8 | .skipped => 2#8 | .failed => 3#8])))))

end Statements
end

