-- ==== Sys2Proof/Laws/State.lean ====
section
/-! SUPPORT. What each named update of the state does to each field of it: one lemma for each, true by `rfl`. -/

namespace Sys2Proof.Machine

variable (s : State)

/-! ### countRx -/

@[simp] theorem State.countRx_held (f : RxCounters → RxCounters) : (s.countRx f).held = s.held := rfl
@[simp] theorem State.countRx_nodeState (f : RxCounters → RxCounters) : (s.countRx f).nodeState = s.nodeState := rfl
@[simp] theorem State.countRx_tin (f : RxCounters → RxCounters) : (s.countRx f).tin = s.tin := rfl
@[simp] theorem State.countRx_rx (f : RxCounters → RxCounters) : (s.countRx f).rx = f s.rx := rfl
@[simp] theorem State.countRx_table (f : RxCounters → RxCounters) : (s.countRx f).table = s.table := rfl
@[simp] theorem State.countRx_banks (f : RxCounters → RxCounters) : (s.countRx f).banks = s.banks := rfl
@[simp] theorem State.countRx_clearNext (f : RxCounters → RxCounters) : (s.countRx f).clearNext = s.clearNext := rfl
@[simp] theorem State.countRx_steer (f : RxCounters → RxCounters) : (s.countRx f).steer = s.steer := rfl
@[simp] theorem State.countRx_batch (f : RxCounters → RxCounters) : (s.countRx f).batch = s.batch := rfl
@[simp] theorem State.countRx_queues (f : RxCounters → RxCounters) : (s.countRx f).queues = s.queues := rfl
@[simp] theorem State.countRx_rotation (f : RxCounters → RxCounters) : (s.countRx f).rotation = s.rotation := rfl
@[simp] theorem State.countRx_sched (f : RxCounters → RxCounters) : (s.countRx f).sched = s.sched := rfl
@[simp] theorem State.countRx_tout (f : RxCounters → RxCounters) : (s.countRx f).tout = s.tout := rfl
@[simp] theorem State.countRx_ports (f : RxCounters → RxCounters) : (s.countRx f).ports = s.ports := rfl
@[simp] theorem State.countRx_agent (f : RxCounters → RxCounters) : (s.countRx f).agent = s.agent := rfl
@[simp] theorem State.countRx_agentCtr (f : RxCounters → RxCounters) : (s.countRx f).agentCtr = s.agentCtr := rfl
@[simp] theorem State.countRx_lease (f : RxCounters → RxCounters) : (s.countRx f).lease = s.lease := rfl
@[simp] theorem State.countRx_notices (f : RxCounters → RxCounters) : (s.countRx f).notices = s.notices := rfl
@[simp] theorem State.countRx_noticeCtr (f : RxCounters → RxCounters) : (s.countRx f).noticeCtr = s.noticeCtr := rfl
@[simp] theorem State.countRx_handed (f : RxCounters → RxCounters) : (s.countRx f).handed = s.handed := rfl
@[simp] theorem State.countRx_draws (f : RxCounters → RxCounters) : (s.countRx f).draws = s.draws := rfl
@[simp] theorem State.countRx_pending (f : RxCounters → RxCounters) : (s.countRx f).pending = s.pending := rfl

/-! ### countSteer -/

@[simp] theorem State.countSteer_held (f : SteerCounters → SteerCounters) : (s.countSteer f).held = s.held := rfl
@[simp] theorem State.countSteer_nodeState (f : SteerCounters → SteerCounters) :
    (s.countSteer f).nodeState = s.nodeState := rfl
@[simp] theorem State.countSteer_tin (f : SteerCounters → SteerCounters) : (s.countSteer f).tin = s.tin := rfl
@[simp] theorem State.countSteer_rx (f : SteerCounters → SteerCounters) : (s.countSteer f).rx = s.rx := rfl
@[simp] theorem State.countSteer_table (f : SteerCounters → SteerCounters) : (s.countSteer f).table = s.table := rfl
@[simp] theorem State.countSteer_banks (f : SteerCounters → SteerCounters) : (s.countSteer f).banks = s.banks := rfl
@[simp] theorem State.countSteer_clearNext (f : SteerCounters → SteerCounters) :
    (s.countSteer f).clearNext = s.clearNext := rfl
@[simp] theorem State.countSteer_steer (f : SteerCounters → SteerCounters) : (s.countSteer f).steer = f s.steer := rfl
@[simp] theorem State.countSteer_batch (f : SteerCounters → SteerCounters) : (s.countSteer f).batch = s.batch := rfl
@[simp] theorem State.countSteer_queues (f : SteerCounters → SteerCounters) :
    (s.countSteer f).queues = s.queues := rfl
@[simp] theorem State.countSteer_rotation (f : SteerCounters → SteerCounters) :
    (s.countSteer f).rotation = s.rotation := rfl
@[simp] theorem State.countSteer_sched (f : SteerCounters → SteerCounters) : (s.countSteer f).sched = s.sched := rfl
@[simp] theorem State.countSteer_tout (f : SteerCounters → SteerCounters) : (s.countSteer f).tout = s.tout := rfl
@[simp] theorem State.countSteer_ports (f : SteerCounters → SteerCounters) : (s.countSteer f).ports = s.ports := rfl
@[simp] theorem State.countSteer_agent (f : SteerCounters → SteerCounters) : (s.countSteer f).agent = s.agent := rfl
@[simp] theorem State.countSteer_agentCtr (f : SteerCounters → SteerCounters) :
    (s.countSteer f).agentCtr = s.agentCtr := rfl
@[simp] theorem State.countSteer_lease (f : SteerCounters → SteerCounters) : (s.countSteer f).lease = s.lease := rfl
@[simp] theorem State.countSteer_notices (f : SteerCounters → SteerCounters) :
    (s.countSteer f).notices = s.notices := rfl
@[simp] theorem State.countSteer_noticeCtr (f : SteerCounters → SteerCounters) :
    (s.countSteer f).noticeCtr = s.noticeCtr := rfl
@[simp] theorem State.countSteer_handed (f : SteerCounters → SteerCounters) :
    (s.countSteer f).handed = s.handed := rfl
@[simp] theorem State.countSteer_draws (f : SteerCounters → SteerCounters) : (s.countSteer f).draws = s.draws := rfl
@[simp] theorem State.countSteer_pending (f : SteerCounters → SteerCounters) :
    (s.countSteer f).pending = s.pending := rfl

/-! ### countSched -/

@[simp] theorem State.countSched_held (f : SchedCounters → SchedCounters) : (s.countSched f).held = s.held := rfl
@[simp] theorem State.countSched_nodeState (f : SchedCounters → SchedCounters) :
    (s.countSched f).nodeState = s.nodeState := rfl
@[simp] theorem State.countSched_tin (f : SchedCounters → SchedCounters) : (s.countSched f).tin = s.tin := rfl
@[simp] theorem State.countSched_rx (f : SchedCounters → SchedCounters) : (s.countSched f).rx = s.rx := rfl
@[simp] theorem State.countSched_table (f : SchedCounters → SchedCounters) : (s.countSched f).table = s.table := rfl
@[simp] theorem State.countSched_banks (f : SchedCounters → SchedCounters) : (s.countSched f).banks = s.banks := rfl
@[simp] theorem State.countSched_clearNext (f : SchedCounters → SchedCounters) :
    (s.countSched f).clearNext = s.clearNext := rfl
@[simp] theorem State.countSched_steer (f : SchedCounters → SchedCounters) : (s.countSched f).steer = s.steer := rfl
@[simp] theorem State.countSched_batch (f : SchedCounters → SchedCounters) : (s.countSched f).batch = s.batch := rfl
@[simp] theorem State.countSched_queues (f : SchedCounters → SchedCounters) :
    (s.countSched f).queues = s.queues := rfl
@[simp] theorem State.countSched_rotation (f : SchedCounters → SchedCounters) :
    (s.countSched f).rotation = s.rotation := rfl
@[simp] theorem State.countSched_sched (f : SchedCounters → SchedCounters) : (s.countSched f).sched = f s.sched := rfl
@[simp] theorem State.countSched_tout (f : SchedCounters → SchedCounters) : (s.countSched f).tout = s.tout := rfl
@[simp] theorem State.countSched_ports (f : SchedCounters → SchedCounters) : (s.countSched f).ports = s.ports := rfl
@[simp] theorem State.countSched_agent (f : SchedCounters → SchedCounters) : (s.countSched f).agent = s.agent := rfl
@[simp] theorem State.countSched_agentCtr (f : SchedCounters → SchedCounters) :
    (s.countSched f).agentCtr = s.agentCtr := rfl
@[simp] theorem State.countSched_lease (f : SchedCounters → SchedCounters) : (s.countSched f).lease = s.lease := rfl
@[simp] theorem State.countSched_notices (f : SchedCounters → SchedCounters) :
    (s.countSched f).notices = s.notices := rfl
@[simp] theorem State.countSched_noticeCtr (f : SchedCounters → SchedCounters) :
    (s.countSched f).noticeCtr = s.noticeCtr := rfl
@[simp] theorem State.countSched_handed (f : SchedCounters → SchedCounters) :
    (s.countSched f).handed = s.handed := rfl
@[simp] theorem State.countSched_draws (f : SchedCounters → SchedCounters) : (s.countSched f).draws = s.draws := rfl
@[simp] theorem State.countSched_pending (f : SchedCounters → SchedCounters) :
    (s.countSched f).pending = s.pending := rfl

/-! ### countAgent -/

@[simp] theorem State.countAgent_held (f : AgentCounters → AgentCounters) : (s.countAgent f).held = s.held := rfl
@[simp] theorem State.countAgent_nodeState (f : AgentCounters → AgentCounters) :
    (s.countAgent f).nodeState = s.nodeState := rfl
@[simp] theorem State.countAgent_tin (f : AgentCounters → AgentCounters) : (s.countAgent f).tin = s.tin := rfl
@[simp] theorem State.countAgent_rx (f : AgentCounters → AgentCounters) : (s.countAgent f).rx = s.rx := rfl
@[simp] theorem State.countAgent_table (f : AgentCounters → AgentCounters) : (s.countAgent f).table = s.table := rfl
@[simp] theorem State.countAgent_banks (f : AgentCounters → AgentCounters) : (s.countAgent f).banks = s.banks := rfl
@[simp] theorem State.countAgent_clearNext (f : AgentCounters → AgentCounters) :
    (s.countAgent f).clearNext = s.clearNext := rfl
@[simp] theorem State.countAgent_steer (f : AgentCounters → AgentCounters) : (s.countAgent f).steer = s.steer := rfl
@[simp] theorem State.countAgent_batch (f : AgentCounters → AgentCounters) : (s.countAgent f).batch = s.batch := rfl
@[simp] theorem State.countAgent_queues (f : AgentCounters → AgentCounters) :
    (s.countAgent f).queues = s.queues := rfl
@[simp] theorem State.countAgent_rotation (f : AgentCounters → AgentCounters) :
    (s.countAgent f).rotation = s.rotation := rfl
@[simp] theorem State.countAgent_sched (f : AgentCounters → AgentCounters) : (s.countAgent f).sched = s.sched := rfl
@[simp] theorem State.countAgent_tout (f : AgentCounters → AgentCounters) : (s.countAgent f).tout = s.tout := rfl
@[simp] theorem State.countAgent_ports (f : AgentCounters → AgentCounters) : (s.countAgent f).ports = s.ports := rfl
@[simp] theorem State.countAgent_agent (f : AgentCounters → AgentCounters) : (s.countAgent f).agent = s.agent := rfl
@[simp] theorem State.countAgent_agentCtr (f : AgentCounters → AgentCounters) :
    (s.countAgent f).agentCtr = f s.agentCtr := rfl
@[simp] theorem State.countAgent_lease (f : AgentCounters → AgentCounters) : (s.countAgent f).lease = s.lease := rfl
@[simp] theorem State.countAgent_notices (f : AgentCounters → AgentCounters) :
    (s.countAgent f).notices = s.notices := rfl
@[simp] theorem State.countAgent_noticeCtr (f : AgentCounters → AgentCounters) :
    (s.countAgent f).noticeCtr = s.noticeCtr := rfl
@[simp] theorem State.countAgent_handed (f : AgentCounters → AgentCounters) :
    (s.countAgent f).handed = s.handed := rfl
@[simp] theorem State.countAgent_draws (f : AgentCounters → AgentCounters) : (s.countAgent f).draws = s.draws := rfl
@[simp] theorem State.countAgent_pending (f : AgentCounters → AgentCounters) :
    (s.countAgent f).pending = s.pending := rfl

/-! ### countNotice -/

@[simp] theorem State.countNotice_held (f : NoticeCounters → NoticeCounters) : (s.countNotice f).held = s.held := rfl
@[simp] theorem State.countNotice_nodeState (f : NoticeCounters → NoticeCounters) :
    (s.countNotice f).nodeState = s.nodeState := rfl
@[simp] theorem State.countNotice_tin (f : NoticeCounters → NoticeCounters) : (s.countNotice f).tin = s.tin := rfl
@[simp] theorem State.countNotice_rx (f : NoticeCounters → NoticeCounters) : (s.countNotice f).rx = s.rx := rfl
@[simp] theorem State.countNotice_table (f : NoticeCounters → NoticeCounters) :
    (s.countNotice f).table = s.table := rfl
@[simp] theorem State.countNotice_banks (f : NoticeCounters → NoticeCounters) :
    (s.countNotice f).banks = s.banks := rfl
@[simp] theorem State.countNotice_clearNext (f : NoticeCounters → NoticeCounters) :
    (s.countNotice f).clearNext = s.clearNext := rfl
@[simp] theorem State.countNotice_steer (f : NoticeCounters → NoticeCounters) :
    (s.countNotice f).steer = s.steer := rfl
@[simp] theorem State.countNotice_batch (f : NoticeCounters → NoticeCounters) :
    (s.countNotice f).batch = s.batch := rfl
@[simp] theorem State.countNotice_queues (f : NoticeCounters → NoticeCounters) :
    (s.countNotice f).queues = s.queues := rfl
@[simp] theorem State.countNotice_rotation (f : NoticeCounters → NoticeCounters) :
    (s.countNotice f).rotation = s.rotation := rfl
@[simp] theorem State.countNotice_sched (f : NoticeCounters → NoticeCounters) :
    (s.countNotice f).sched = s.sched := rfl
@[simp] theorem State.countNotice_tout (f : NoticeCounters → NoticeCounters) : (s.countNotice f).tout = s.tout := rfl
@[simp] theorem State.countNotice_ports (f : NoticeCounters → NoticeCounters) :
    (s.countNotice f).ports = s.ports := rfl
@[simp] theorem State.countNotice_agent (f : NoticeCounters → NoticeCounters) :
    (s.countNotice f).agent = s.agent := rfl
@[simp] theorem State.countNotice_agentCtr (f : NoticeCounters → NoticeCounters) :
    (s.countNotice f).agentCtr = s.agentCtr := rfl
@[simp] theorem State.countNotice_lease (f : NoticeCounters → NoticeCounters) :
    (s.countNotice f).lease = s.lease := rfl
@[simp] theorem State.countNotice_notices (f : NoticeCounters → NoticeCounters) :
    (s.countNotice f).notices = s.notices := rfl
@[simp] theorem State.countNotice_noticeCtr (f : NoticeCounters → NoticeCounters) :
    (s.countNotice f).noticeCtr = f s.noticeCtr := rfl
@[simp] theorem State.countNotice_handed (f : NoticeCounters → NoticeCounters) :
    (s.countNotice f).handed = s.handed := rfl
@[simp] theorem State.countNotice_draws (f : NoticeCounters → NoticeCounters) :
    (s.countNotice f).draws = s.draws := rfl
@[simp] theorem State.countNotice_pending (f : NoticeCounters → NoticeCounters) :
    (s.countNotice f).pending = s.pending := rfl

/-! ### setRecord -/

@[simp] theorem State.setRecord_held (n : Nat) (r : Record) : (s.setRecord n r).held = s.held := rfl
@[simp] theorem State.setRecord_nodeState (n : Nat) (r : Record) : (s.setRecord n r).nodeState = s.nodeState := rfl
@[simp] theorem State.setRecord_tin (n : Nat) (r : Record) : (s.setRecord n r).tin = s.tin := rfl
@[simp] theorem State.setRecord_rx (n : Nat) (r : Record) : (s.setRecord n r).rx = s.rx := rfl
@[simp] theorem State.setRecord_table (n : Nat) (r : Record) : (s.setRecord n r).table = tableWrite s.table n r := rfl
@[simp] theorem State.setRecord_banks (n : Nat) (r : Record) : (s.setRecord n r).banks = s.banks := rfl
@[simp] theorem State.setRecord_clearNext (n : Nat) (r : Record) : (s.setRecord n r).clearNext = s.clearNext := rfl
@[simp] theorem State.setRecord_steer (n : Nat) (r : Record) : (s.setRecord n r).steer = s.steer := rfl
@[simp] theorem State.setRecord_batch (n : Nat) (r : Record) : (s.setRecord n r).batch = s.batch := rfl
@[simp] theorem State.setRecord_queues (n : Nat) (r : Record) : (s.setRecord n r).queues = s.queues := rfl
@[simp] theorem State.setRecord_rotation (n : Nat) (r : Record) : (s.setRecord n r).rotation = s.rotation := rfl
@[simp] theorem State.setRecord_sched (n : Nat) (r : Record) : (s.setRecord n r).sched = s.sched := rfl
@[simp] theorem State.setRecord_tout (n : Nat) (r : Record) : (s.setRecord n r).tout = s.tout := rfl
@[simp] theorem State.setRecord_ports (n : Nat) (r : Record) : (s.setRecord n r).ports = s.ports := rfl
@[simp] theorem State.setRecord_agent (n : Nat) (r : Record) : (s.setRecord n r).agent = s.agent := rfl
@[simp] theorem State.setRecord_agentCtr (n : Nat) (r : Record) : (s.setRecord n r).agentCtr = s.agentCtr := rfl
@[simp] theorem State.setRecord_lease (n : Nat) (r : Record) : (s.setRecord n r).lease = s.lease := rfl
@[simp] theorem State.setRecord_notices (n : Nat) (r : Record) : (s.setRecord n r).notices = s.notices := rfl
@[simp] theorem State.setRecord_noticeCtr (n : Nat) (r : Record) : (s.setRecord n r).noticeCtr = s.noticeCtr := rfl
@[simp] theorem State.setRecord_handed (n : Nat) (r : Record) : (s.setRecord n r).handed = s.handed := rfl
@[simp] theorem State.setRecord_draws (n : Nat) (r : Record) : (s.setRecord n r).draws = s.draws := rfl
@[simp] theorem State.setRecord_pending (n : Nat) (r : Record) : (s.setRecord n r).pending = s.pending := rfl

/-! ### setPort -/

@[simp] theorem State.setPort_held (n : PortId) (p : Port) : (s.setPort n p).held = s.held := rfl
@[simp] theorem State.setPort_nodeState (n : PortId) (p : Port) : (s.setPort n p).nodeState = s.nodeState := rfl
@[simp] theorem State.setPort_tin (n : PortId) (p : Port) : (s.setPort n p).tin = s.tin := rfl
@[simp] theorem State.setPort_rx (n : PortId) (p : Port) : (s.setPort n p).rx = s.rx := rfl
@[simp] theorem State.setPort_table (n : PortId) (p : Port) : (s.setPort n p).table = s.table := rfl
@[simp] theorem State.setPort_banks (n : PortId) (p : Port) : (s.setPort n p).banks = s.banks := rfl
@[simp] theorem State.setPort_clearNext (n : PortId) (p : Port) : (s.setPort n p).clearNext = s.clearNext := rfl
@[simp] theorem State.setPort_steer (n : PortId) (p : Port) : (s.setPort n p).steer = s.steer := rfl
@[simp] theorem State.setPort_batch (n : PortId) (p : Port) : (s.setPort n p).batch = s.batch := rfl
@[simp] theorem State.setPort_queues (n : PortId) (p : Port) : (s.setPort n p).queues = s.queues := rfl
@[simp] theorem State.setPort_rotation (n : PortId) (p : Port) : (s.setPort n p).rotation = s.rotation := rfl
@[simp] theorem State.setPort_sched (n : PortId) (p : Port) : (s.setPort n p).sched = s.sched := rfl
@[simp] theorem State.setPort_tout (n : PortId) (p : Port) : (s.setPort n p).tout = s.tout := rfl
@[simp] theorem State.setPort_ports (n : PortId) (p : Port) :
    (s.setPort n p).ports = s.ports.set n.val p n.isLt := rfl
@[simp] theorem State.setPort_agent (n : PortId) (p : Port) : (s.setPort n p).agent = s.agent := rfl
@[simp] theorem State.setPort_agentCtr (n : PortId) (p : Port) : (s.setPort n p).agentCtr = s.agentCtr := rfl
@[simp] theorem State.setPort_lease (n : PortId) (p : Port) : (s.setPort n p).lease = s.lease := rfl
@[simp] theorem State.setPort_notices (n : PortId) (p : Port) : (s.setPort n p).notices = s.notices := rfl
@[simp] theorem State.setPort_noticeCtr (n : PortId) (p : Port) : (s.setPort n p).noticeCtr = s.noticeCtr := rfl
@[simp] theorem State.setPort_handed (n : PortId) (p : Port) : (s.setPort n p).handed = s.handed := rfl
@[simp] theorem State.setPort_draws (n : PortId) (p : Port) : (s.setPort n p).draws = s.draws := rfl
@[simp] theorem State.setPort_pending (n : PortId) (p : Port) : (s.setPort n p).pending = s.pending := rfl

/-! ### setBank -/

@[simp] theorem State.setBank_held (b : BankId) (x : BankState) : (s.setBank b x).held = s.held := rfl
@[simp] theorem State.setBank_nodeState (b : BankId) (x : BankState) : (s.setBank b x).nodeState = s.nodeState := rfl
@[simp] theorem State.setBank_tin (b : BankId) (x : BankState) : (s.setBank b x).tin = s.tin := rfl
@[simp] theorem State.setBank_rx (b : BankId) (x : BankState) : (s.setBank b x).rx = s.rx := rfl
@[simp] theorem State.setBank_table (b : BankId) (x : BankState) : (s.setBank b x).table = s.table := rfl
@[simp] theorem State.setBank_banks (b : BankId) (x : BankState) :
    (s.setBank b x).banks = s.banks.set b.val x b.isLt := rfl
@[simp] theorem State.setBank_clearNext (b : BankId) (x : BankState) : (s.setBank b x).clearNext = s.clearNext := rfl
@[simp] theorem State.setBank_steer (b : BankId) (x : BankState) : (s.setBank b x).steer = s.steer := rfl
@[simp] theorem State.setBank_batch (b : BankId) (x : BankState) : (s.setBank b x).batch = s.batch := rfl
@[simp] theorem State.setBank_queues (b : BankId) (x : BankState) : (s.setBank b x).queues = s.queues := rfl
@[simp] theorem State.setBank_rotation (b : BankId) (x : BankState) : (s.setBank b x).rotation = s.rotation := rfl
@[simp] theorem State.setBank_sched (b : BankId) (x : BankState) : (s.setBank b x).sched = s.sched := rfl
@[simp] theorem State.setBank_tout (b : BankId) (x : BankState) : (s.setBank b x).tout = s.tout := rfl
@[simp] theorem State.setBank_ports (b : BankId) (x : BankState) : (s.setBank b x).ports = s.ports := rfl
@[simp] theorem State.setBank_agent (b : BankId) (x : BankState) : (s.setBank b x).agent = s.agent := rfl
@[simp] theorem State.setBank_agentCtr (b : BankId) (x : BankState) : (s.setBank b x).agentCtr = s.agentCtr := rfl
@[simp] theorem State.setBank_lease (b : BankId) (x : BankState) : (s.setBank b x).lease = s.lease := rfl
@[simp] theorem State.setBank_notices (b : BankId) (x : BankState) : (s.setBank b x).notices = s.notices := rfl
@[simp] theorem State.setBank_noticeCtr (b : BankId) (x : BankState) : (s.setBank b x).noticeCtr = s.noticeCtr := rfl
@[simp] theorem State.setBank_handed (b : BankId) (x : BankState) : (s.setBank b x).handed = s.handed := rfl
@[simp] theorem State.setBank_draws (b : BankId) (x : BankState) : (s.setBank b x).draws = s.draws := rfl
@[simp] theorem State.setBank_pending (b : BankId) (x : BankState) : (s.setBank b x).pending = s.pending := rfl

/-! ### setQueue -/

@[simp] theorem State.setQueue_held (q : QueueId) (x : Queue) : (s.setQueue q x).held = s.held := rfl
@[simp] theorem State.setQueue_nodeState (q : QueueId) (x : Queue) : (s.setQueue q x).nodeState = s.nodeState := rfl
@[simp] theorem State.setQueue_tin (q : QueueId) (x : Queue) : (s.setQueue q x).tin = s.tin := rfl
@[simp] theorem State.setQueue_rx (q : QueueId) (x : Queue) : (s.setQueue q x).rx = s.rx := rfl
@[simp] theorem State.setQueue_table (q : QueueId) (x : Queue) : (s.setQueue q x).table = s.table := rfl
@[simp] theorem State.setQueue_banks (q : QueueId) (x : Queue) : (s.setQueue q x).banks = s.banks := rfl
@[simp] theorem State.setQueue_clearNext (q : QueueId) (x : Queue) : (s.setQueue q x).clearNext = s.clearNext := rfl
@[simp] theorem State.setQueue_steer (q : QueueId) (x : Queue) : (s.setQueue q x).steer = s.steer := rfl
@[simp] theorem State.setQueue_batch (q : QueueId) (x : Queue) : (s.setQueue q x).batch = s.batch := rfl
@[simp] theorem State.setQueue_queues (q : QueueId) (x : Queue) :
    (s.setQueue q x).queues = s.queues.set q.val x q.isLt := rfl
@[simp] theorem State.setQueue_rotation (q : QueueId) (x : Queue) : (s.setQueue q x).rotation = s.rotation := rfl
@[simp] theorem State.setQueue_sched (q : QueueId) (x : Queue) : (s.setQueue q x).sched = s.sched := rfl
@[simp] theorem State.setQueue_tout (q : QueueId) (x : Queue) : (s.setQueue q x).tout = s.tout := rfl
@[simp] theorem State.setQueue_ports (q : QueueId) (x : Queue) : (s.setQueue q x).ports = s.ports := rfl
@[simp] theorem State.setQueue_agent (q : QueueId) (x : Queue) : (s.setQueue q x).agent = s.agent := rfl
@[simp] theorem State.setQueue_agentCtr (q : QueueId) (x : Queue) : (s.setQueue q x).agentCtr = s.agentCtr := rfl
@[simp] theorem State.setQueue_lease (q : QueueId) (x : Queue) : (s.setQueue q x).lease = s.lease := rfl
@[simp] theorem State.setQueue_notices (q : QueueId) (x : Queue) : (s.setQueue q x).notices = s.notices := rfl
@[simp] theorem State.setQueue_noticeCtr (q : QueueId) (x : Queue) : (s.setQueue q x).noticeCtr = s.noticeCtr := rfl
@[simp] theorem State.setQueue_handed (q : QueueId) (x : Queue) : (s.setQueue q x).handed = s.handed := rfl
@[simp] theorem State.setQueue_draws (q : QueueId) (x : Queue) : (s.setQueue q x).draws = s.draws := rfl
@[simp] theorem State.setQueue_pending (q : QueueId) (x : Queue) : (s.setQueue q x).pending = s.pending := rfl

/-! ### hand -/

@[simp] theorem State.hand_held (b : Block) (r : Report) : (s.hand b r).held = s.held := rfl
@[simp] theorem State.hand_nodeState (b : Block) (r : Report) : (s.hand b r).nodeState = s.nodeState := rfl
@[simp] theorem State.hand_tin (b : Block) (r : Report) : (s.hand b r).tin = s.tin := rfl
@[simp] theorem State.hand_rx (b : Block) (r : Report) : (s.hand b r).rx = s.rx := rfl
@[simp] theorem State.hand_table (b : Block) (r : Report) : (s.hand b r).table = s.table := rfl
@[simp] theorem State.hand_banks (b : Block) (r : Report) : (s.hand b r).banks = s.banks := rfl
@[simp] theorem State.hand_clearNext (b : Block) (r : Report) : (s.hand b r).clearNext = s.clearNext := rfl
@[simp] theorem State.hand_steer (b : Block) (r : Report) : (s.hand b r).steer = s.steer := rfl
@[simp] theorem State.hand_batch (b : Block) (r : Report) : (s.hand b r).batch = s.batch := rfl
@[simp] theorem State.hand_queues (b : Block) (r : Report) : (s.hand b r).queues = s.queues := rfl
@[simp] theorem State.hand_rotation (b : Block) (r : Report) : (s.hand b r).rotation = s.rotation := rfl
@[simp] theorem State.hand_sched (b : Block) (r : Report) : (s.hand b r).sched = s.sched := rfl
@[simp] theorem State.hand_tout (b : Block) (r : Report) : (s.hand b r).tout = s.tout := rfl
@[simp] theorem State.hand_ports (b : Block) (r : Report) : (s.hand b r).ports = s.ports := rfl
@[simp] theorem State.hand_agent (b : Block) (r : Report) : (s.hand b r).agent = s.agent := rfl
@[simp] theorem State.hand_agentCtr (b : Block) (r : Report) : (s.hand b r).agentCtr = s.agentCtr := rfl
@[simp] theorem State.hand_lease (b : Block) (r : Report) : (s.hand b r).lease = s.lease := rfl
@[simp] theorem State.hand_notices (b : Block) (r : Report) : (s.hand b r).notices = s.notices := rfl
@[simp] theorem State.hand_noticeCtr (b : Block) (r : Report) : (s.hand b r).noticeCtr = s.noticeCtr := rfl
@[simp] theorem State.hand_handed (b : Block) (r : Report) :
    (s.hand b r).handed = s.handed ++ [{ block := b, report := r }] := rfl
@[simp] theorem State.hand_draws (b : Block) (r : Report) : (s.hand b r).draws = s.draws := rfl
@[simp] theorem State.hand_pending (b : Block) (r : Report) : (s.hand b r).pending = s.pending := rfl

/-! ### setHands -/

@[simp] theorem State.setHands_held (hs : List HandCell) : (s.setHands hs).held = s.held := rfl
@[simp] theorem State.setHands_nodeState (hs : List HandCell) : (s.setHands hs).nodeState = s.nodeState := rfl
@[simp] theorem State.setHands_tin (hs : List HandCell) : (s.setHands hs).tin = s.tin := rfl
@[simp] theorem State.setHands_rx (hs : List HandCell) : (s.setHands hs).rx = s.rx := rfl
@[simp] theorem State.setHands_table (hs : List HandCell) : (s.setHands hs).table = s.table := rfl
@[simp] theorem State.setHands_banks (hs : List HandCell) : (s.setHands hs).banks = s.banks := rfl
@[simp] theorem State.setHands_clearNext (hs : List HandCell) : (s.setHands hs).clearNext = s.clearNext := rfl
@[simp] theorem State.setHands_steer (hs : List HandCell) : (s.setHands hs).steer = s.steer := rfl
@[simp] theorem State.setHands_batch (hs : List HandCell) : (s.setHands hs).batch = s.batch := rfl
@[simp] theorem State.setHands_queues (hs : List HandCell) : (s.setHands hs).queues = s.queues := rfl
@[simp] theorem State.setHands_rotation (hs : List HandCell) : (s.setHands hs).rotation = s.rotation := rfl
@[simp] theorem State.setHands_sched (hs : List HandCell) : (s.setHands hs).sched = s.sched := rfl
@[simp] theorem State.setHands_tout (hs : List HandCell) : (s.setHands hs).tout = s.tout := rfl
@[simp] theorem State.setHands_ports (hs : List HandCell) : (s.setHands hs).ports = s.ports := rfl
@[simp] theorem State.setHands_agent (hs : List HandCell) :
    (s.setHands hs).agent = { s.agent with hands := hs } := rfl
@[simp] theorem State.setHands_agentCtr (hs : List HandCell) : (s.setHands hs).agentCtr = s.agentCtr := rfl
@[simp] theorem State.setHands_lease (hs : List HandCell) : (s.setHands hs).lease = s.lease := rfl
@[simp] theorem State.setHands_notices (hs : List HandCell) : (s.setHands hs).notices = s.notices := rfl
@[simp] theorem State.setHands_noticeCtr (hs : List HandCell) : (s.setHands hs).noticeCtr = s.noticeCtr := rfl
@[simp] theorem State.setHands_handed (hs : List HandCell) : (s.setHands hs).handed = s.handed := rfl
@[simp] theorem State.setHands_draws (hs : List HandCell) : (s.setHands hs).draws = s.draws := rfl
@[simp] theorem State.setHands_pending (hs : List HandCell) : (s.setHands hs).pending = s.pending := rfl

/-! ### notePast -/

@[simp] theorem State.notePast_held (o : Origin) (q : BitVec 16) (a : Bool) : (s.notePast o q a).held = s.held := rfl
@[simp] theorem State.notePast_nodeState (o : Origin) (q : BitVec 16) (a : Bool) :
    (s.notePast o q a).nodeState = s.nodeState := rfl
@[simp] theorem State.notePast_tin (o : Origin) (q : BitVec 16) (a : Bool) : (s.notePast o q a).tin = s.tin := rfl
@[simp] theorem State.notePast_rx (o : Origin) (q : BitVec 16) (a : Bool) : (s.notePast o q a).rx = s.rx := rfl
@[simp] theorem State.notePast_table (o : Origin) (q : BitVec 16) (a : Bool) : (s.notePast o q a).table = s.table := rfl
@[simp] theorem State.notePast_banks (o : Origin) (q : BitVec 16) (a : Bool) : (s.notePast o q a).banks = s.banks := rfl
@[simp] theorem State.notePast_clearNext (o : Origin) (q : BitVec 16) (a : Bool) :
    (s.notePast o q a).clearNext = s.clearNext := rfl
@[simp] theorem State.notePast_steer (o : Origin) (q : BitVec 16) (a : Bool) : (s.notePast o q a).steer = s.steer := rfl
@[simp] theorem State.notePast_batch (o : Origin) (q : BitVec 16) (a : Bool) : (s.notePast o q a).batch = s.batch := rfl
@[simp] theorem State.notePast_queues (o : Origin) (q : BitVec 16) (a : Bool) : (s.notePast o q a).queues = s.queues := rfl
@[simp] theorem State.notePast_rotation (o : Origin) (q : BitVec 16) (a : Bool) :
    (s.notePast o q a).rotation = s.rotation := rfl
@[simp] theorem State.notePast_sched (o : Origin) (q : BitVec 16) (a : Bool) : (s.notePast o q a).sched = s.sched := rfl
@[simp] theorem State.notePast_tout (o : Origin) (q : BitVec 16) (a : Bool) : (s.notePast o q a).tout = s.tout := rfl
@[simp] theorem State.notePast_ports (o : Origin) (q : BitVec 16) (a : Bool) : (s.notePast o q a).ports = s.ports := rfl
@[simp] theorem State.notePast_agentCtr (o : Origin) (q : BitVec 16) (a : Bool) :
    (s.notePast o q a).agentCtr = s.agentCtr := rfl
@[simp] theorem State.notePast_lease (o : Origin) (q : BitVec 16) (a : Bool) : (s.notePast o q a).lease = s.lease := rfl
@[simp] theorem State.notePast_notices (o : Origin) (q : BitVec 16) (a : Bool) :
    (s.notePast o q a).notices = s.notices := rfl
@[simp] theorem State.notePast_noticeCtr (o : Origin) (q : BitVec 16) (a : Bool) :
    (s.notePast o q a).noticeCtr = s.noticeCtr := rfl
@[simp] theorem State.notePast_handed (o : Origin) (q : BitVec 16) (a : Bool) : (s.notePast o q a).handed = s.handed := rfl
@[simp] theorem State.notePast_draws (o : Origin) (q : BitVec 16) (a : Bool) : (s.notePast o q a).draws = s.draws := rfl
@[simp] theorem State.notePast_pending (o : Origin) (q : BitVec 16) (a : Bool) :
    (s.notePast o q a).pending = s.pending := rfl
@[simp] theorem State.notePast_agent_address (o : Origin) (q : BitVec 16) (a : Bool) :
    (s.notePast o q a).agent.address = s.agent.address := rfl
@[simp] theorem State.notePast_agent_unitNumber (o : Origin) (q : BitVec 16) (a : Bool) :
    (s.notePast o q a).agent.unitNumber = s.agent.unitNumber := rfl
@[simp] theorem State.notePast_agent_lmgt (o : Origin) (q : BitVec 16) (a : Bool) :
    (s.notePast o q a).agent.lmgt = s.agent.lmgt := rfl
@[simp] theorem State.notePast_agent_settings (o : Origin) (q : BitVec 16) (a : Bool) :
    (s.notePast o q a).agent.settings = s.agent.settings := rfl
@[simp] theorem State.notePast_agent_origins (o : Origin) (q : BitVec 16) (a : Bool) :
    (s.notePast o q a).agent.origins = s.agent.origins := rfl
@[simp] theorem State.notePast_agent_hands (o : Origin) (q : BitVec 16) (a : Bool) :
    (s.notePast o q a).agent.hands = s.agent.hands := rfl
@[simp] theorem State.notePast_agent_past (o : Origin) (q : BitVec 16) (a : Bool) :
    (s.notePast o q a).agent.past =
      let first : OriginPast := { origin := o, latest := q, since := [], anew := [], reset := none }
      ((if s.agent.past.any fun p => decide (p.origin = o) then [] else [first]) ++ s.agent.past).map fun p =>
        if p.origin = o then p.noted q a else p := rfl

/-! ### leaseTo -/

@[simp] theorem State.leaseTo_held (o : Origin) : (s.leaseTo o).held = s.held := rfl
@[simp] theorem State.leaseTo_nodeState (o : Origin) : (s.leaseTo o).nodeState = s.nodeState := rfl
@[simp] theorem State.leaseTo_tin (o : Origin) : (s.leaseTo o).tin = s.tin := rfl
@[simp] theorem State.leaseTo_rx (o : Origin) : (s.leaseTo o).rx = s.rx := rfl
@[simp] theorem State.leaseTo_table (o : Origin) : (s.leaseTo o).table = s.table := rfl
@[simp] theorem State.leaseTo_banks (o : Origin) : (s.leaseTo o).banks = s.banks := rfl
@[simp] theorem State.leaseTo_clearNext (o : Origin) : (s.leaseTo o).clearNext = s.clearNext := rfl
@[simp] theorem State.leaseTo_steer (o : Origin) : (s.leaseTo o).steer = s.steer := rfl
@[simp] theorem State.leaseTo_batch (o : Origin) : (s.leaseTo o).batch = s.batch := rfl
@[simp] theorem State.leaseTo_queues (o : Origin) : (s.leaseTo o).queues = s.queues := rfl
@[simp] theorem State.leaseTo_rotation (o : Origin) : (s.leaseTo o).rotation = s.rotation := rfl
@[simp] theorem State.leaseTo_sched (o : Origin) : (s.leaseTo o).sched = s.sched := rfl
@[simp] theorem State.leaseTo_tout (o : Origin) : (s.leaseTo o).tout = s.tout := rfl
@[simp] theorem State.leaseTo_ports (o : Origin) : (s.leaseTo o).ports = s.ports := rfl
@[simp] theorem State.leaseTo_agent (o : Origin) : (s.leaseTo o).agent = s.agent := rfl
@[simp] theorem State.leaseTo_agentCtr (o : Origin) : (s.leaseTo o).agentCtr = s.agentCtr := rfl
@[simp] theorem State.leaseTo_lease (o : Origin) :
    (s.leaseTo o).lease = .held o s.agent.settings.leasePeriod.toNat := rfl
@[simp] theorem State.leaseTo_notices (o : Origin) : (s.leaseTo o).notices = s.notices := rfl
@[simp] theorem State.leaseTo_noticeCtr (o : Origin) : (s.leaseTo o).noticeCtr = s.noticeCtr := rfl
@[simp] theorem State.leaseTo_handed (o : Origin) : (s.leaseTo o).handed = s.handed := rfl
@[simp] theorem State.leaseTo_draws (o : Origin) : (s.leaseTo o).draws = s.draws := rfl
@[simp] theorem State.leaseTo_pending (o : Origin) : (s.leaseTo o).pending = s.pending := rfl

/-! ### discardBatch -/

@[simp] theorem State.discardBatch_held : (s.discardBatch).held = s.held := rfl
@[simp] theorem State.discardBatch_nodeState : (s.discardBatch).nodeState = s.nodeState := rfl
@[simp] theorem State.discardBatch_tin : (s.discardBatch).tin = s.tin := rfl
@[simp] theorem State.discardBatch_rx : (s.discardBatch).rx = s.rx := rfl
@[simp] theorem State.discardBatch_table : (s.discardBatch).table = s.table := rfl
@[simp] theorem State.discardBatch_banks : (s.discardBatch).banks = s.banks := rfl
@[simp] theorem State.discardBatch_clearNext : (s.discardBatch).clearNext = s.clearNext := rfl
@[simp] theorem State.discardBatch_steer : (s.discardBatch).steer = s.steer := rfl
@[simp] theorem State.discardBatch_batch : (s.discardBatch).batch = s.batch.ended := rfl
@[simp] theorem State.discardBatch_queues : (s.discardBatch).queues = s.queues := rfl
@[simp] theorem State.discardBatch_rotation : (s.discardBatch).rotation = s.rotation := rfl
@[simp] theorem State.discardBatch_sched : (s.discardBatch).sched = s.sched := rfl
@[simp] theorem State.discardBatch_tout : (s.discardBatch).tout = s.tout := rfl
@[simp] theorem State.discardBatch_ports : (s.discardBatch).ports = s.ports := rfl
@[simp] theorem State.discardBatch_agent : (s.discardBatch).agent = s.agent := rfl
@[simp] theorem State.discardBatch_agentCtr : (s.discardBatch).agentCtr = s.agentCtr := rfl
@[simp] theorem State.discardBatch_lease : (s.discardBatch).lease = s.lease := rfl
@[simp] theorem State.discardBatch_notices : (s.discardBatch).notices = s.notices := rfl
@[simp] theorem State.discardBatch_noticeCtr : (s.discardBatch).noticeCtr = s.noticeCtr := rfl
@[simp] theorem State.discardBatch_handed : (s.discardBatch).handed = s.handed := rfl
@[simp] theorem State.discardBatch_draws : (s.discardBatch).draws = s.draws := rfl
@[simp] theorem State.discardBatch_pending : (s.discardBatch).pending = s.pending := rfl

/-! ### recordOutcome -/

@[simp] theorem State.recordOutcome_held (p n : Nat) (x : EditOutcome) : (s.recordOutcome p n x).held = s.held := rfl
@[simp] theorem State.recordOutcome_nodeState (p n : Nat) (x : EditOutcome) :
    (s.recordOutcome p n x).nodeState = s.nodeState := rfl
@[simp] theorem State.recordOutcome_tin (p n : Nat) (x : EditOutcome) : (s.recordOutcome p n x).tin = s.tin := rfl
@[simp] theorem State.recordOutcome_rx (p n : Nat) (x : EditOutcome) : (s.recordOutcome p n x).rx = s.rx := rfl
@[simp] theorem State.recordOutcome_table (p n : Nat) (x : EditOutcome) :
    (s.recordOutcome p n x).table = s.table := rfl
@[simp] theorem State.recordOutcome_banks (p n : Nat) (x : EditOutcome) :
    (s.recordOutcome p n x).banks = s.banks := rfl
@[simp] theorem State.recordOutcome_clearNext (p n : Nat) (x : EditOutcome) :
    (s.recordOutcome p n x).clearNext = s.clearNext := rfl
@[simp] theorem State.recordOutcome_steer (p n : Nat) (x : EditOutcome) :
    (s.recordOutcome p n x).steer = s.steer := rfl
@[simp] theorem State.recordOutcome_batch (p n : Nat) (x : EditOutcome) :
    (s.recordOutcome p n x).batch = { s.batch with outcomes := s.batch.outcomes ++ [{ position := p, tag := n, result := x }] } := rfl
@[simp] theorem State.recordOutcome_queues (p n : Nat) (x : EditOutcome) :
    (s.recordOutcome p n x).queues = s.queues := rfl
@[simp] theorem State.recordOutcome_rotation (p n : Nat) (x : EditOutcome) :
    (s.recordOutcome p n x).rotation = s.rotation := rfl
@[simp] theorem State.recordOutcome_sched (p n : Nat) (x : EditOutcome) :
    (s.recordOutcome p n x).sched = s.sched := rfl
@[simp] theorem State.recordOutcome_tout (p n : Nat) (x : EditOutcome) : (s.recordOutcome p n x).tout = s.tout := rfl
@[simp] theorem State.recordOutcome_ports (p n : Nat) (x : EditOutcome) :
    (s.recordOutcome p n x).ports = s.ports := rfl
@[simp] theorem State.recordOutcome_agent (p n : Nat) (x : EditOutcome) :
    (s.recordOutcome p n x).agent = s.agent := rfl
@[simp] theorem State.recordOutcome_agentCtr (p n : Nat) (x : EditOutcome) :
    (s.recordOutcome p n x).agentCtr = s.agentCtr := rfl
@[simp] theorem State.recordOutcome_lease (p n : Nat) (x : EditOutcome) :
    (s.recordOutcome p n x).lease = s.lease := rfl
@[simp] theorem State.recordOutcome_notices (p n : Nat) (x : EditOutcome) :
    (s.recordOutcome p n x).notices = s.notices := rfl
@[simp] theorem State.recordOutcome_noticeCtr (p n : Nat) (x : EditOutcome) :
    (s.recordOutcome p n x).noticeCtr = s.noticeCtr := rfl
@[simp] theorem State.recordOutcome_handed (p n : Nat) (x : EditOutcome) :
    (s.recordOutcome p n x).handed = s.handed := rfl
@[simp] theorem State.recordOutcome_draws (p n : Nat) (x : EditOutcome) :
    (s.recordOutcome p n x).draws = s.draws := rfl
@[simp] theorem State.recordOutcome_pending (p n : Nat) (x : EditOutcome) :
    (s.recordOutcome p n x).pending = s.pending := rfl

/-! ### moveTin -/

@[simp] theorem State.moveTin_held (x : TinState) : (s.moveTin x).held = s.held := rfl
@[simp] theorem State.moveTin_nodeState (x : TinState) : (s.moveTin x).nodeState = s.nodeState := rfl
@[simp] theorem State.moveTin_tin (x : TinState) : (s.moveTin x).tin = x := rfl
@[simp] theorem State.moveTin_rx (x : TinState) : (s.moveTin x).rx = s.rx := rfl
@[simp] theorem State.moveTin_table (x : TinState) : (s.moveTin x).table = s.table := rfl
@[simp] theorem State.moveTin_banks (x : TinState) : (s.moveTin x).banks = s.banks := rfl
@[simp] theorem State.moveTin_clearNext (x : TinState) : (s.moveTin x).clearNext = s.clearNext := rfl
@[simp] theorem State.moveTin_steer (x : TinState) : (s.moveTin x).steer = s.steer := rfl
@[simp] theorem State.moveTin_batch (x : TinState) : (s.moveTin x).batch = s.batch := rfl
@[simp] theorem State.moveTin_queues (x : TinState) : (s.moveTin x).queues = s.queues := rfl
@[simp] theorem State.moveTin_rotation (x : TinState) : (s.moveTin x).rotation = s.rotation := rfl
@[simp] theorem State.moveTin_sched (x : TinState) : (s.moveTin x).sched = s.sched := rfl
@[simp] theorem State.moveTin_tout (x : TinState) : (s.moveTin x).tout = s.tout := rfl
@[simp] theorem State.moveTin_ports (x : TinState) : (s.moveTin x).ports = s.ports := rfl
@[simp] theorem State.moveTin_agent (x : TinState) : (s.moveTin x).agent = s.agent := rfl
@[simp] theorem State.moveTin_agentCtr (x : TinState) : (s.moveTin x).agentCtr = s.agentCtr := rfl
@[simp] theorem State.moveTin_lease (x : TinState) : (s.moveTin x).lease = s.lease := rfl
@[simp] theorem State.moveTin_notices (x : TinState) : (s.moveTin x).notices = s.notices := rfl
@[simp] theorem State.moveTin_noticeCtr (x : TinState) : (s.moveTin x).noticeCtr = s.noticeCtr := rfl
@[simp] theorem State.moveTin_handed (x : TinState) :
    (s.moveTin x).handed = s.handed ++ [{ block := .trunkReceiver, report := { type := .trunkChange, subject := 0, detail := .code x.code } }] := rfl
@[simp] theorem State.moveTin_draws (x : TinState) : (s.moveTin x).draws = s.draws := rfl
@[simp] theorem State.moveTin_pending (x : TinState) : (s.moveTin x).pending = s.pending := rfl

end Sys2Proof.Machine
end

