-- ==== Sys2Proof/Laws/Ops.lean ====
section
/-! SUPPORT. The ports, banks and queues after an update, and what each shared operation of the Queue Manager can do. -/

namespace Sys2Proof.Machine

variable (s : State)

/-! ### Ports, banks and queues are stored apart -/

@[simp] theorem State.port_setPort_same (n : PortId) (p : Port) : (s.setPort n p).port n = p := by
  simp [State.port, State.setPort]

theorem State.port_setPort_other {n m : PortId} (p : Port) (h : m ≠ n) : (s.setPort n p).port m = s.port m := by
  have : n.val ≠ m.val := fun e => h (Fin.ext e.symm)
  simp [State.port, State.setPort, this]

theorem State.port_setPort (n m : PortId) (p : Port) : (s.setPort n p).port m = if m = n then p else s.port m := by
  split
  · subst_vars; simp
  · exact s.port_setPort_other p ‹_›

@[simp] theorem State.bank_setBank_same (b : BankId) (x : BankState) : (s.setBank b x).bank b = x := by
  simp [State.bank, State.setBank]

theorem State.bank_setBank_other {b k : BankId} (x : BankState) (h : k ≠ b) : (s.setBank b x).bank k = s.bank k := by
  have : b.val ≠ k.val := fun e => h (Fin.ext e.symm)
  simp [State.bank, State.setBank, this]

theorem State.bank_setBank (b k : BankId) (x : BankState) : (s.setBank b x).bank k = if k = b then x else s.bank k := by
  split
  · subst_vars; simp
  · exact s.bank_setBank_other x ‹_›

@[simp] theorem State.queue_setQueue_same (q : QueueId) (x : Queue) : (s.setQueue q x).queue q = x := by
  simp [State.queue, State.setQueue]

theorem State.queue_setQueue_other {q k : QueueId} (x : Queue) (h : k ≠ q) : (s.setQueue q x).queue k = s.queue k := by
  have : q.val ≠ k.val := fun e => h (Fin.ext e.symm)
  simp [State.queue, State.setQueue, this]

theorem State.queue_setQueue (q k : QueueId) (x : Queue) : (s.setQueue q x).queue k = if k = q then x else s.queue k := by
  split
  · subst_vars; simp
  · exact s.queue_setQueue_other x ‹_›

/-! ### The accessors see one field each -/

theorem State.port_of_ports {s t : State} (h : t.ports = s.ports) (n : PortId) : t.port n = s.port n := by
  simp [State.port, h]

theorem State.bank_of_banks {s t : State} (h : t.banks = s.banks) (b : BankId) : t.bank b = s.bank b := by
  simp [State.bank, h]

theorem State.queue_of_queues {s t : State} (h : t.queues = s.queues) (q : QueueId) : t.queue q = s.queue q := by
  simp [State.queue, h]

theorem State.record_of_table {s t : State} (h : t.table = s.table) (n : Nat) : t.record n = s.record n := by
  simp [State.record, h]

@[simp] theorem State.port_countRx (f : RxCounters → RxCounters) (n : PortId) : (s.countRx f).port n = s.port n := rfl
@[simp] theorem State.bank_countRx (f : RxCounters → RxCounters) (k : BankId) : (s.countRx f).bank k = s.bank k := rfl
@[simp] theorem State.queue_countRx (f : RxCounters → RxCounters) (q : QueueId) :
    (s.countRx f).queue q = s.queue q := rfl
@[simp] theorem State.record_countRx (f : RxCounters → RxCounters) (n : Nat) :
    (s.countRx f).record n = s.record n := rfl
@[simp] theorem State.port_countSteer (f : SteerCounters → SteerCounters) (n : PortId) :
    (s.countSteer f).port n = s.port n := rfl
@[simp] theorem State.bank_countSteer (f : SteerCounters → SteerCounters) (k : BankId) :
    (s.countSteer f).bank k = s.bank k := rfl
@[simp] theorem State.queue_countSteer (f : SteerCounters → SteerCounters) (q : QueueId) :
    (s.countSteer f).queue q = s.queue q := rfl
@[simp] theorem State.record_countSteer (f : SteerCounters → SteerCounters) (n : Nat) :
    (s.countSteer f).record n = s.record n := rfl
@[simp] theorem State.port_countSched (f : SchedCounters → SchedCounters) (n : PortId) :
    (s.countSched f).port n = s.port n := rfl
@[simp] theorem State.bank_countSched (f : SchedCounters → SchedCounters) (k : BankId) :
    (s.countSched f).bank k = s.bank k := rfl
@[simp] theorem State.queue_countSched (f : SchedCounters → SchedCounters) (q : QueueId) :
    (s.countSched f).queue q = s.queue q := rfl
@[simp] theorem State.record_countSched (f : SchedCounters → SchedCounters) (n : Nat) :
    (s.countSched f).record n = s.record n := rfl
@[simp] theorem State.port_countAgent (f : AgentCounters → AgentCounters) (n : PortId) :
    (s.countAgent f).port n = s.port n := rfl
@[simp] theorem State.bank_countAgent (f : AgentCounters → AgentCounters) (k : BankId) :
    (s.countAgent f).bank k = s.bank k := rfl
@[simp] theorem State.queue_countAgent (f : AgentCounters → AgentCounters) (q : QueueId) :
    (s.countAgent f).queue q = s.queue q := rfl
@[simp] theorem State.record_countAgent (f : AgentCounters → AgentCounters) (n : Nat) :
    (s.countAgent f).record n = s.record n := rfl
@[simp] theorem State.port_countNotice (f : NoticeCounters → NoticeCounters) (n : PortId) :
    (s.countNotice f).port n = s.port n := rfl
@[simp] theorem State.bank_countNotice (f : NoticeCounters → NoticeCounters) (k : BankId) :
    (s.countNotice f).bank k = s.bank k := rfl
@[simp] theorem State.queue_countNotice (f : NoticeCounters → NoticeCounters) (q : QueueId) :
    (s.countNotice f).queue q = s.queue q := rfl
@[simp] theorem State.record_countNotice (f : NoticeCounters → NoticeCounters) (n : Nat) :
    (s.countNotice f).record n = s.record n := rfl
@[simp] theorem State.port_setRecord (m : Nat) (r : Record) (n : PortId) : (s.setRecord m r).port n = s.port n := rfl
@[simp] theorem State.bank_setRecord (m : Nat) (r : Record) (k : BankId) : (s.setRecord m r).bank k = s.bank k := rfl
@[simp] theorem State.queue_setRecord (m : Nat) (r : Record) (q : QueueId) :
    (s.setRecord m r).queue q = s.queue q := rfl
@[simp] theorem State.bank_setPort (m : PortId) (p : Port) (k : BankId) : (s.setPort m p).bank k = s.bank k := rfl
@[simp] theorem State.queue_setPort (m : PortId) (p : Port) (q : QueueId) : (s.setPort m p).queue q = s.queue q := rfl
@[simp] theorem State.record_setPort (m : PortId) (p : Port) (n : Nat) : (s.setPort m p).record n = s.record n := rfl
@[simp] theorem State.port_setBank (m : BankId) (x : BankState) (n : PortId) :
    (s.setBank m x).port n = s.port n := rfl
@[simp] theorem State.queue_setBank (m : BankId) (x : BankState) (q : QueueId) :
    (s.setBank m x).queue q = s.queue q := rfl
@[simp] theorem State.record_setBank (m : BankId) (x : BankState) (n : Nat) :
    (s.setBank m x).record n = s.record n := rfl
@[simp] theorem State.port_setQueue (m : QueueId) (x : Queue) (n : PortId) : (s.setQueue m x).port n = s.port n := rfl
@[simp] theorem State.bank_setQueue (m : QueueId) (x : Queue) (k : BankId) : (s.setQueue m x).bank k = s.bank k := rfl
@[simp] theorem State.record_setQueue (m : QueueId) (x : Queue) (n : Nat) :
    (s.setQueue m x).record n = s.record n := rfl
@[simp] theorem State.port_hand (b : Block) (r : Report) (n : PortId) : (s.hand b r).port n = s.port n := rfl
@[simp] theorem State.bank_hand (b : Block) (r : Report) (k : BankId) : (s.hand b r).bank k = s.bank k := rfl
@[simp] theorem State.queue_hand (b : Block) (r : Report) (q : QueueId) : (s.hand b r).queue q = s.queue q := rfl
@[simp] theorem State.record_hand (b : Block) (r : Report) (n : Nat) : (s.hand b r).record n = s.record n := rfl
@[simp] theorem State.port_setHands (hs : List HandCell) (n : PortId) : (s.setHands hs).port n = s.port n := rfl
@[simp] theorem State.bank_setHands (hs : List HandCell) (k : BankId) : (s.setHands hs).bank k = s.bank k := rfl
@[simp] theorem State.queue_setHands (hs : List HandCell) (q : QueueId) : (s.setHands hs).queue q = s.queue q := rfl
@[simp] theorem State.record_setHands (hs : List HandCell) (n : Nat) : (s.setHands hs).record n = s.record n := rfl
@[simp] theorem State.port_leaseTo (o : Origin) (n : PortId) : (s.leaseTo o).port n = s.port n := rfl
@[simp] theorem State.bank_leaseTo (o : Origin) (k : BankId) : (s.leaseTo o).bank k = s.bank k := rfl
@[simp] theorem State.queue_leaseTo (o : Origin) (q : QueueId) : (s.leaseTo o).queue q = s.queue q := rfl
@[simp] theorem State.record_leaseTo (o : Origin) (n : Nat) : (s.leaseTo o).record n = s.record n := rfl
@[simp] theorem State.port_discardBatch (n : PortId) : (s.discardBatch).port n = s.port n := rfl
@[simp] theorem State.bank_discardBatch (k : BankId) : (s.discardBatch).bank k = s.bank k := rfl
@[simp] theorem State.queue_discardBatch (q : QueueId) : (s.discardBatch).queue q = s.queue q := rfl
@[simp] theorem State.record_discardBatch (n : Nat) : (s.discardBatch).record n = s.record n := rfl
@[simp] theorem State.port_recordOutcome (p m : Nat) (x : EditOutcome) (n : PortId) :
    (s.recordOutcome p m x).port n = s.port n := rfl
@[simp] theorem State.bank_recordOutcome (p m : Nat) (x : EditOutcome) (k : BankId) :
    (s.recordOutcome p m x).bank k = s.bank k := rfl
@[simp] theorem State.queue_recordOutcome (p m : Nat) (x : EditOutcome) (q : QueueId) :
    (s.recordOutcome p m x).queue q = s.queue q := rfl
@[simp] theorem State.record_recordOutcome (p m : Nat) (x : EditOutcome) (n : Nat) :
    (s.recordOutcome p m x).record n = s.record n := rfl
@[simp] theorem State.port_moveTin (x : TinState) (n : PortId) : (s.moveTin x).port n = s.port n := rfl
@[simp] theorem State.bank_moveTin (x : TinState) (k : BankId) : (s.moveTin x).bank k = s.bank k := rfl
@[simp] theorem State.queue_moveTin (x : TinState) (q : QueueId) : (s.moveTin x).queue q = s.queue q := rfl
@[simp] theorem State.record_moveTin (x : TinState) (n : Nat) : (s.moveTin x).record n = s.record n := rfl

/-! ### Claims (R79) -/

/-- All that a claim can do: an admitted one appends its entry and counts it, a refused one counts the refusal. -/
theorem State.claim_cases (q : QueueId) (e : Entry) :
    (s.admits q = true ∧ s.claim q e =
      (s.setQueue q { s.queue q with entries := (s.queue q).entries ++ [e], admitted := (s.queue q).admitted + 1 }, true)) ∨
    (s.admits q = false ∧
      s.claim q e = (s.setQueue q { s.queue q with refused := (s.queue q).refused + 1 }, false)) := by
  unfold State.claim
  cases h : s.admits q <;> simp

/-- A claim to a queue below its floor is admitted when a slot is free (R79). -/
theorem State.admits_below_floor {q : QueueId} (hf : 0 < s.freeSlots) (h : (s.queue q).occupancy < (s.queue q).floor) :
    s.admits q = true := by
  simp [State.admits, hf, h]

/-- An admitted claim was made to a queue below its ceiling or below its floor, with a slot free (R79). -/
theorem State.admits_cases {q : QueueId} (h : s.admits q = true) :
    0 < s.freeSlots ∧ ((s.queue q).occupancy < (s.queue q).floor ∨
      (s.queue q).occupancy < (s.queue q).ceiling ∧ s.reserve < s.freeSlots) := by
  simpa [State.admits] using h

/-- A claim changes no queue but the one claimed. -/
theorem State.claim_queue_other {q k : QueueId} (e : Entry) (h : k ≠ q) : (s.claim q e).1.queue k = s.queue k := by
  rcases s.claim_cases q e with ⟨-, hc⟩ | ⟨-, hc⟩ <;> simp [hc, s.queue_setQueue_other _ h]

/-- A claim keeps the floor, the ceiling and the flushed counter of the queue claimed. -/
theorem State.claim_queue_kept (q : QueueId) (e : Entry) :
    ((s.claim q e).1.queue q).floor = (s.queue q).floor ∧ ((s.claim q e).1.queue q).ceiling = (s.queue q).ceiling ∧
      ((s.claim q e).1.queue q).flushed = (s.queue q).flushed := by
  rcases s.claim_cases q e with ⟨-, hc⟩ | ⟨-, hc⟩ <;> simp [hc]

@[simp] theorem State.claim_held (q : QueueId) (e : Entry) : (s.claim q e).1.held = s.held := by
  unfold State.claim; dsimp only; split <;> rfl

@[simp] theorem State.claim_nodeState (q : QueueId) (e : Entry) : (s.claim q e).1.nodeState = s.nodeState := by
  unfold State.claim; dsimp only; split <;> rfl

@[simp] theorem State.claim_tin (q : QueueId) (e : Entry) : (s.claim q e).1.tin = s.tin := by
  unfold State.claim; dsimp only; split <;> rfl

@[simp] theorem State.claim_rx (q : QueueId) (e : Entry) : (s.claim q e).1.rx = s.rx := by
  unfold State.claim; dsimp only; split <;> rfl

@[simp] theorem State.claim_table (q : QueueId) (e : Entry) : (s.claim q e).1.table = s.table := by
  unfold State.claim; dsimp only; split <;> rfl

@[simp] theorem State.claim_banks (q : QueueId) (e : Entry) : (s.claim q e).1.banks = s.banks := by
  unfold State.claim; dsimp only; split <;> rfl

@[simp] theorem State.claim_clearNext (q : QueueId) (e : Entry) : (s.claim q e).1.clearNext = s.clearNext := by
  unfold State.claim; dsimp only; split <;> rfl

@[simp] theorem State.claim_steer (q : QueueId) (e : Entry) : (s.claim q e).1.steer = s.steer := by
  unfold State.claim; dsimp only; split <;> rfl

@[simp] theorem State.claim_batch (q : QueueId) (e : Entry) : (s.claim q e).1.batch = s.batch := by
  unfold State.claim; dsimp only; split <;> rfl

@[simp] theorem State.claim_rotation (q : QueueId) (e : Entry) : (s.claim q e).1.rotation = s.rotation := by
  unfold State.claim; dsimp only; split <;> rfl

@[simp] theorem State.claim_sched (q : QueueId) (e : Entry) : (s.claim q e).1.sched = s.sched := by
  unfold State.claim; dsimp only; split <;> rfl

@[simp] theorem State.claim_tout (q : QueueId) (e : Entry) : (s.claim q e).1.tout = s.tout := by
  unfold State.claim; dsimp only; split <;> rfl

@[simp] theorem State.claim_ports (q : QueueId) (e : Entry) : (s.claim q e).1.ports = s.ports := by
  unfold State.claim; dsimp only; split <;> rfl

@[simp] theorem State.claim_agent (q : QueueId) (e : Entry) : (s.claim q e).1.agent = s.agent := by
  unfold State.claim; dsimp only; split <;> rfl

@[simp] theorem State.claim_agentCtr (q : QueueId) (e : Entry) : (s.claim q e).1.agentCtr = s.agentCtr := by
  unfold State.claim; dsimp only; split <;> rfl

@[simp] theorem State.claim_lease (q : QueueId) (e : Entry) : (s.claim q e).1.lease = s.lease := by
  unfold State.claim; dsimp only; split <;> rfl

@[simp] theorem State.claim_notices (q : QueueId) (e : Entry) : (s.claim q e).1.notices = s.notices := by
  unfold State.claim; dsimp only; split <;> rfl

@[simp] theorem State.claim_noticeCtr (q : QueueId) (e : Entry) : (s.claim q e).1.noticeCtr = s.noticeCtr := by
  unfold State.claim; dsimp only; split <;> rfl

@[simp] theorem State.claim_handed (q : QueueId) (e : Entry) : (s.claim q e).1.handed = s.handed := by
  unfold State.claim; dsimp only; split <;> rfl

@[simp] theorem State.claim_draws (q : QueueId) (e : Entry) : (s.claim q e).1.draws = s.draws := by
  unfold State.claim; dsimp only; split <;> rfl

@[simp] theorem State.claim_pending (q : QueueId) (e : Entry) : (s.claim q e).1.pending = s.pending := by
  unfold State.claim; dsimp only; split <;> rfl

@[simp] theorem State.offer_held (q : QueueId) (c : Cell) (x : Source) : (s.offer q c x).held = s.held :=
  s.claim_held q _

@[simp] theorem State.offer_nodeState (q : QueueId) (c : Cell) (x : Source) : (s.offer q c x).nodeState = s.nodeState :=
  s.claim_nodeState q _

@[simp] theorem State.offer_tin (q : QueueId) (c : Cell) (x : Source) : (s.offer q c x).tin = s.tin :=
  s.claim_tin q _

@[simp] theorem State.offer_rx (q : QueueId) (c : Cell) (x : Source) : (s.offer q c x).rx = s.rx :=
  s.claim_rx q _

@[simp] theorem State.offer_table (q : QueueId) (c : Cell) (x : Source) : (s.offer q c x).table = s.table :=
  s.claim_table q _

@[simp] theorem State.offer_banks (q : QueueId) (c : Cell) (x : Source) : (s.offer q c x).banks = s.banks :=
  s.claim_banks q _

@[simp] theorem State.offer_clearNext (q : QueueId) (c : Cell) (x : Source) : (s.offer q c x).clearNext = s.clearNext :=
  s.claim_clearNext q _

@[simp] theorem State.offer_steer (q : QueueId) (c : Cell) (x : Source) : (s.offer q c x).steer = s.steer :=
  s.claim_steer q _

@[simp] theorem State.offer_batch (q : QueueId) (c : Cell) (x : Source) : (s.offer q c x).batch = s.batch :=
  s.claim_batch q _

@[simp] theorem State.offer_rotation (q : QueueId) (c : Cell) (x : Source) : (s.offer q c x).rotation = s.rotation :=
  s.claim_rotation q _

@[simp] theorem State.offer_sched (q : QueueId) (c : Cell) (x : Source) : (s.offer q c x).sched = s.sched :=
  s.claim_sched q _

@[simp] theorem State.offer_tout (q : QueueId) (c : Cell) (x : Source) : (s.offer q c x).tout = s.tout :=
  s.claim_tout q _

@[simp] theorem State.offer_ports (q : QueueId) (c : Cell) (x : Source) : (s.offer q c x).ports = s.ports :=
  s.claim_ports q _

@[simp] theorem State.offer_agent (q : QueueId) (c : Cell) (x : Source) : (s.offer q c x).agent = s.agent :=
  s.claim_agent q _

@[simp] theorem State.offer_agentCtr (q : QueueId) (c : Cell) (x : Source) : (s.offer q c x).agentCtr = s.agentCtr :=
  s.claim_agentCtr q _

@[simp] theorem State.offer_lease (q : QueueId) (c : Cell) (x : Source) : (s.offer q c x).lease = s.lease :=
  s.claim_lease q _

@[simp] theorem State.offer_notices (q : QueueId) (c : Cell) (x : Source) : (s.offer q c x).notices = s.notices :=
  s.claim_notices q _

@[simp] theorem State.offer_noticeCtr (q : QueueId) (c : Cell) (x : Source) : (s.offer q c x).noticeCtr = s.noticeCtr :=
  s.claim_noticeCtr q _

@[simp] theorem State.offer_handed (q : QueueId) (c : Cell) (x : Source) : (s.offer q c x).handed = s.handed :=
  s.claim_handed q _

@[simp] theorem State.offer_draws (q : QueueId) (c : Cell) (x : Source) : (s.offer q c x).draws = s.draws :=
  s.claim_draws q _

@[simp] theorem State.offer_pending (q : QueueId) (c : Cell) (x : Source) : (s.offer q c x).pending = s.pending :=
  s.claim_pending q _

/-! ### Removals and flushes (R82, R84) -/

/-- A flush empties its queue and raises the flushed counter by the entries it discarded (R84). -/
@[simp] theorem State.queue_flush_same (q : QueueId) : (s.flush q).queue q =
    { s.queue q with entries := [], flushed := (s.queue q).flushed + BitVec.ofNat 32 (s.queue q).occupancy } := by
  simp [State.flush]

/-- A flush changes no other queue. -/
theorem State.queue_flush_other {q k : QueueId} (h : k ≠ q) : (s.flush q).queue k = s.queue k := by
  simp [State.flush, s.queue_setQueue_other _ h]

/-- Taking the head leaves the tail of the queue, and its counters as they were (R82). -/
@[simp] theorem State.queue_dropHead_same (q : QueueId) :
    (s.dropHead q).queue q = { s.queue q with entries := (s.queue q).entries.tail } := by
  simp [State.dropHead, State.setEntries]

/-- Taking a head changes no other queue. -/
theorem State.queue_dropHead_other {q k : QueueId} (h : k ≠ q) : (s.dropHead q).queue k = s.queue k := by
  simp [State.dropHead, State.setEntries, s.queue_setQueue_other _ h]

@[simp] theorem State.flush_held (q : QueueId) : (s.flush q).held = s.held := rfl
@[simp] theorem State.flush_nodeState (q : QueueId) : (s.flush q).nodeState = s.nodeState := rfl
@[simp] theorem State.flush_tin (q : QueueId) : (s.flush q).tin = s.tin := rfl
@[simp] theorem State.flush_rx (q : QueueId) : (s.flush q).rx = s.rx := rfl
@[simp] theorem State.flush_table (q : QueueId) : (s.flush q).table = s.table := rfl
@[simp] theorem State.flush_banks (q : QueueId) : (s.flush q).banks = s.banks := rfl
@[simp] theorem State.flush_clearNext (q : QueueId) : (s.flush q).clearNext = s.clearNext := rfl
@[simp] theorem State.flush_steer (q : QueueId) : (s.flush q).steer = s.steer := rfl
@[simp] theorem State.flush_batch (q : QueueId) : (s.flush q).batch = s.batch := rfl
@[simp] theorem State.flush_rotation (q : QueueId) : (s.flush q).rotation = s.rotation := rfl
@[simp] theorem State.flush_sched (q : QueueId) : (s.flush q).sched = s.sched := rfl
@[simp] theorem State.flush_tout (q : QueueId) : (s.flush q).tout = s.tout := rfl
@[simp] theorem State.flush_ports (q : QueueId) : (s.flush q).ports = s.ports := rfl
@[simp] theorem State.flush_agent (q : QueueId) : (s.flush q).agent = s.agent := rfl
@[simp] theorem State.flush_agentCtr (q : QueueId) : (s.flush q).agentCtr = s.agentCtr := rfl
@[simp] theorem State.flush_lease (q : QueueId) : (s.flush q).lease = s.lease := rfl
@[simp] theorem State.flush_notices (q : QueueId) : (s.flush q).notices = s.notices := rfl
@[simp] theorem State.flush_noticeCtr (q : QueueId) : (s.flush q).noticeCtr = s.noticeCtr := rfl
@[simp] theorem State.flush_handed (q : QueueId) : (s.flush q).handed = s.handed := rfl
@[simp] theorem State.flush_draws (q : QueueId) : (s.flush q).draws = s.draws := rfl
@[simp] theorem State.flush_pending (q : QueueId) : (s.flush q).pending = s.pending := rfl

@[simp] theorem State.dropHead_held (q : QueueId) : (s.dropHead q).held = s.held := rfl
@[simp] theorem State.dropHead_nodeState (q : QueueId) : (s.dropHead q).nodeState = s.nodeState := rfl
@[simp] theorem State.dropHead_tin (q : QueueId) : (s.dropHead q).tin = s.tin := rfl
@[simp] theorem State.dropHead_rx (q : QueueId) : (s.dropHead q).rx = s.rx := rfl
@[simp] theorem State.dropHead_table (q : QueueId) : (s.dropHead q).table = s.table := rfl
@[simp] theorem State.dropHead_banks (q : QueueId) : (s.dropHead q).banks = s.banks := rfl
@[simp] theorem State.dropHead_clearNext (q : QueueId) : (s.dropHead q).clearNext = s.clearNext := rfl
@[simp] theorem State.dropHead_steer (q : QueueId) : (s.dropHead q).steer = s.steer := rfl
@[simp] theorem State.dropHead_batch (q : QueueId) : (s.dropHead q).batch = s.batch := rfl
@[simp] theorem State.dropHead_rotation (q : QueueId) : (s.dropHead q).rotation = s.rotation := rfl
@[simp] theorem State.dropHead_sched (q : QueueId) : (s.dropHead q).sched = s.sched := rfl
@[simp] theorem State.dropHead_tout (q : QueueId) : (s.dropHead q).tout = s.tout := rfl
@[simp] theorem State.dropHead_ports (q : QueueId) : (s.dropHead q).ports = s.ports := rfl
@[simp] theorem State.dropHead_agent (q : QueueId) : (s.dropHead q).agent = s.agent := rfl
@[simp] theorem State.dropHead_agentCtr (q : QueueId) : (s.dropHead q).agentCtr = s.agentCtr := rfl
@[simp] theorem State.dropHead_lease (q : QueueId) : (s.dropHead q).lease = s.lease := rfl
@[simp] theorem State.dropHead_notices (q : QueueId) : (s.dropHead q).notices = s.notices := rfl
@[simp] theorem State.dropHead_noticeCtr (q : QueueId) : (s.dropHead q).noticeCtr = s.noticeCtr := rfl
@[simp] theorem State.dropHead_handed (q : QueueId) : (s.dropHead q).handed = s.handed := rfl
@[simp] theorem State.dropHead_draws (q : QueueId) : (s.dropHead q).draws = s.draws := rfl
@[simp] theorem State.dropHead_pending (q : QueueId) : (s.dropHead q).pending = s.pending := rfl

@[simp] theorem State.setEntries_held (q : QueueId) (es : List Entry) : (s.setEntries q es).held = s.held := rfl
@[simp] theorem State.setEntries_nodeState (q : QueueId) (es : List Entry) : (s.setEntries q es).nodeState = s.nodeState := rfl
@[simp] theorem State.setEntries_tin (q : QueueId) (es : List Entry) : (s.setEntries q es).tin = s.tin := rfl
@[simp] theorem State.setEntries_rx (q : QueueId) (es : List Entry) : (s.setEntries q es).rx = s.rx := rfl
@[simp] theorem State.setEntries_table (q : QueueId) (es : List Entry) : (s.setEntries q es).table = s.table := rfl
@[simp] theorem State.setEntries_banks (q : QueueId) (es : List Entry) : (s.setEntries q es).banks = s.banks := rfl
@[simp] theorem State.setEntries_clearNext (q : QueueId) (es : List Entry) : (s.setEntries q es).clearNext = s.clearNext := rfl
@[simp] theorem State.setEntries_steer (q : QueueId) (es : List Entry) : (s.setEntries q es).steer = s.steer := rfl
@[simp] theorem State.setEntries_batch (q : QueueId) (es : List Entry) : (s.setEntries q es).batch = s.batch := rfl
@[simp] theorem State.setEntries_rotation (q : QueueId) (es : List Entry) : (s.setEntries q es).rotation = s.rotation := rfl
@[simp] theorem State.setEntries_sched (q : QueueId) (es : List Entry) : (s.setEntries q es).sched = s.sched := rfl
@[simp] theorem State.setEntries_tout (q : QueueId) (es : List Entry) : (s.setEntries q es).tout = s.tout := rfl
@[simp] theorem State.setEntries_ports (q : QueueId) (es : List Entry) : (s.setEntries q es).ports = s.ports := rfl
@[simp] theorem State.setEntries_agent (q : QueueId) (es : List Entry) : (s.setEntries q es).agent = s.agent := rfl
@[simp] theorem State.setEntries_agentCtr (q : QueueId) (es : List Entry) : (s.setEntries q es).agentCtr = s.agentCtr := rfl
@[simp] theorem State.setEntries_lease (q : QueueId) (es : List Entry) : (s.setEntries q es).lease = s.lease := rfl
@[simp] theorem State.setEntries_notices (q : QueueId) (es : List Entry) : (s.setEntries q es).notices = s.notices := rfl
@[simp] theorem State.setEntries_noticeCtr (q : QueueId) (es : List Entry) : (s.setEntries q es).noticeCtr = s.noticeCtr := rfl
@[simp] theorem State.setEntries_handed (q : QueueId) (es : List Entry) : (s.setEntries q es).handed = s.handed := rfl
@[simp] theorem State.setEntries_draws (q : QueueId) (es : List Entry) : (s.setEntries q es).draws = s.draws := rfl
@[simp] theorem State.setEntries_pending (q : QueueId) (es : List Entry) : (s.setEntries q es).pending = s.pending := rfl

@[simp] theorem State.onPort_held (n : PortId) (f : Port → Port) : (s.onPort n f).held = s.held := rfl
@[simp] theorem State.onPort_nodeState (n : PortId) (f : Port → Port) : (s.onPort n f).nodeState = s.nodeState := rfl
@[simp] theorem State.onPort_tin (n : PortId) (f : Port → Port) : (s.onPort n f).tin = s.tin := rfl
@[simp] theorem State.onPort_rx (n : PortId) (f : Port → Port) : (s.onPort n f).rx = s.rx := rfl
@[simp] theorem State.onPort_table (n : PortId) (f : Port → Port) : (s.onPort n f).table = s.table := rfl
@[simp] theorem State.onPort_banks (n : PortId) (f : Port → Port) : (s.onPort n f).banks = s.banks := rfl
@[simp] theorem State.onPort_clearNext (n : PortId) (f : Port → Port) : (s.onPort n f).clearNext = s.clearNext := rfl
@[simp] theorem State.onPort_steer (n : PortId) (f : Port → Port) : (s.onPort n f).steer = s.steer := rfl
@[simp] theorem State.onPort_batch (n : PortId) (f : Port → Port) : (s.onPort n f).batch = s.batch := rfl
@[simp] theorem State.onPort_queues (n : PortId) (f : Port → Port) : (s.onPort n f).queues = s.queues := rfl
@[simp] theorem State.onPort_rotation (n : PortId) (f : Port → Port) : (s.onPort n f).rotation = s.rotation := rfl
@[simp] theorem State.onPort_sched (n : PortId) (f : Port → Port) : (s.onPort n f).sched = s.sched := rfl
@[simp] theorem State.onPort_tout (n : PortId) (f : Port → Port) : (s.onPort n f).tout = s.tout := rfl
@[simp] theorem State.onPort_agent (n : PortId) (f : Port → Port) : (s.onPort n f).agent = s.agent := rfl
@[simp] theorem State.onPort_agentCtr (n : PortId) (f : Port → Port) : (s.onPort n f).agentCtr = s.agentCtr := rfl
@[simp] theorem State.onPort_lease (n : PortId) (f : Port → Port) : (s.onPort n f).lease = s.lease := rfl
@[simp] theorem State.onPort_notices (n : PortId) (f : Port → Port) : (s.onPort n f).notices = s.notices := rfl
@[simp] theorem State.onPort_noticeCtr (n : PortId) (f : Port → Port) : (s.onPort n f).noticeCtr = s.noticeCtr := rfl
@[simp] theorem State.onPort_handed (n : PortId) (f : Port → Port) : (s.onPort n f).handed = s.handed := rfl
@[simp] theorem State.onPort_draws (n : PortId) (f : Port → Port) : (s.onPort n f).draws = s.draws := rfl
@[simp] theorem State.onPort_pending (n : PortId) (f : Port → Port) : (s.onPort n f).pending = s.pending := rfl

@[simp] theorem State.writeContent_held (n : Nat) (c : Content) : (s.writeContent n c).held = s.held := rfl
@[simp] theorem State.writeContent_nodeState (n : Nat) (c : Content) : (s.writeContent n c).nodeState = s.nodeState := rfl
@[simp] theorem State.writeContent_tin (n : Nat) (c : Content) : (s.writeContent n c).tin = s.tin := rfl
@[simp] theorem State.writeContent_rx (n : Nat) (c : Content) : (s.writeContent n c).rx = s.rx := rfl
@[simp] theorem State.writeContent_banks (n : Nat) (c : Content) : (s.writeContent n c).banks = s.banks := rfl
@[simp] theorem State.writeContent_clearNext (n : Nat) (c : Content) : (s.writeContent n c).clearNext = s.clearNext := rfl
@[simp] theorem State.writeContent_steer (n : Nat) (c : Content) : (s.writeContent n c).steer = s.steer := rfl
@[simp] theorem State.writeContent_batch (n : Nat) (c : Content) : (s.writeContent n c).batch = s.batch := rfl
@[simp] theorem State.writeContent_queues (n : Nat) (c : Content) : (s.writeContent n c).queues = s.queues := rfl
@[simp] theorem State.writeContent_rotation (n : Nat) (c : Content) : (s.writeContent n c).rotation = s.rotation := rfl
@[simp] theorem State.writeContent_sched (n : Nat) (c : Content) : (s.writeContent n c).sched = s.sched := rfl
@[simp] theorem State.writeContent_tout (n : Nat) (c : Content) : (s.writeContent n c).tout = s.tout := rfl
@[simp] theorem State.writeContent_ports (n : Nat) (c : Content) : (s.writeContent n c).ports = s.ports := rfl
@[simp] theorem State.writeContent_agent (n : Nat) (c : Content) : (s.writeContent n c).agent = s.agent := rfl
@[simp] theorem State.writeContent_agentCtr (n : Nat) (c : Content) : (s.writeContent n c).agentCtr = s.agentCtr := rfl
@[simp] theorem State.writeContent_lease (n : Nat) (c : Content) : (s.writeContent n c).lease = s.lease := rfl
@[simp] theorem State.writeContent_notices (n : Nat) (c : Content) : (s.writeContent n c).notices = s.notices := rfl
@[simp] theorem State.writeContent_noticeCtr (n : Nat) (c : Content) : (s.writeContent n c).noticeCtr = s.noticeCtr := rfl
@[simp] theorem State.writeContent_handed (n : Nat) (c : Content) : (s.writeContent n c).handed = s.handed := rfl
@[simp] theorem State.writeContent_draws (n : Nat) (c : Content) : (s.writeContent n c).draws = s.draws := rfl
@[simp] theorem State.writeContent_pending (n : Nat) (c : Content) : (s.writeContent n c).pending = s.pending := rfl

/-! ### One port changed -/

@[simp] theorem State.port_onPort_same (n : PortId) (f : Port → Port) : (s.onPort n f).port n = f (s.port n) := by
  simp [State.onPort]

theorem State.port_onPort_other {n m : PortId} (f : Port → Port) (h : m ≠ n) : (s.onPort n f).port m = s.port m :=
  s.port_setPort_other _ h

end Sys2Proof.Machine
end

