-- ==== Sys2Proof/Laws/PerInstr.lean ====
section
/-! SUPPORT. The per-instruction family of LAWS.json: no row of the opcode table gives bits, so no word spells a command. -/

namespace Sys2Proof.Laws

/-- No word of any width is read as this command: its row of spec/opcode_table.json gives no bits. -/
def WordsSpellNone.Statement (i : Instr) : Prop := ∀ nbits w, decodeTableWord nbits w ≠ some i

/-- The decoder reads no command from any word. -/
theorem decodeTableWord_none (nbits w : Nat) : decodeTableWord nbits w = none := rfl

theorem WordsSpellNone.hardwareReset : WordsSpellNone.Statement .hardwareReset := fun _ _ => by simp [decodeTableWord_none]
theorem WordsSpellNone.hardwareResetEnd (naddr : Byte) (lmgt : Bool) : WordsSpellNone.Statement (.hardwareResetEnd naddr lmgt) := fun _ _ => by simp [decodeTableWord_none]
theorem WordsSpellNone.recordDamage (tag : UsableTag) (content : Content) : WordsSpellNone.Statement (.recordDamage tag content) := fun _ _ => by simp [decodeTableWord_none]
theorem WordsSpellNone.tinSignalPresent : WordsSpellNone.Statement .tinSignalPresent := fun _ _ => by simp [decodeTableWord_none]
theorem WordsSpellNone.tinSignalLost (begun : Bool) : WordsSpellNone.Statement (.tinSignalLost begun) := fun _ _ => by simp [decodeTableWord_none]
theorem WordsSpellNone.tinArrival (bytes : List Byte) : WordsSpellNone.Statement (.tinArrival bytes) := fun _ _ => by simp [decodeTableWord_none]
theorem WordsSpellNone.unknownRequest : WordsSpellNone.Statement .unknownRequest := fun _ _ => by simp [decodeTableWord_none]
theorem WordsSpellNone.nodeQuery : WordsSpellNone.Statement .nodeQuery := fun _ _ => by simp [decodeTableWord_none]
theorem WordsSpellNone.countersRead : WordsSpellNone.Statement .countersRead := fun _ _ => by simp [decodeTableWord_none]
theorem WordsSpellNone.entryRead : WordsSpellNone.Statement .entryRead := fun _ _ => by simp [decodeTableWord_none]
theorem WordsSpellNone.tableScan : WordsSpellNone.Statement .tableScan := fun _ _ => by simp [decodeTableWord_none]
theorem WordsSpellNone.queueQuery : WordsSpellNone.Statement .queueQuery := fun _ _ => by simp [decodeTableWord_none]
theorem WordsSpellNone.portQuery : WordsSpellNone.Statement .portQuery := fun _ _ => by simp [decodeTableWord_none]
theorem WordsSpellNone.nodeSet : WordsSpellNone.Statement .nodeSet := fun _ _ => by simp [decodeTableWord_none]
theorem WordsSpellNone.queueSet : WordsSpellNone.Statement .queueSet := fun _ _ => by simp [decodeTableWord_none]
theorem WordsSpellNone.queueFlush : WordsSpellNone.Statement .queueFlush := fun _ _ => by simp [decodeTableWord_none]
theorem WordsSpellNone.portSet : WordsSpellNone.Statement .portSet := fun _ _ => by simp [decodeTableWord_none]
theorem WordsSpellNone.countersClear : WordsSpellNone.Statement .countersClear := fun _ _ => by simp [decodeTableWord_none]
theorem WordsSpellNone.nodeReset : WordsSpellNone.Statement .nodeReset := fun _ _ => by simp [decodeTableWord_none]
theorem WordsSpellNone.assignAddress : WordsSpellNone.Statement .assignAddress := fun _ _ => by simp [decodeTableWord_none]
theorem WordsSpellNone.batchOpen : WordsSpellNone.Statement .batchOpen := fun _ _ => by simp [decodeTableWord_none]
theorem WordsSpellNone.batchEdit : WordsSpellNone.Statement .batchEdit := fun _ _ => by simp [decodeTableWord_none]
theorem WordsSpellNone.batchCommit : WordsSpellNone.Statement .batchCommit := fun _ _ => by simp [decodeTableWord_none]
theorem WordsSpellNone.batchAbort : WordsSpellNone.Statement .batchAbort := fun _ _ => by simp [decodeTableWord_none]
theorem WordsSpellNone.leaseTake : WordsSpellNone.Statement .leaseTake := fun _ _ => by simp [decodeTableWord_none]
theorem WordsSpellNone.leaseRenew : WordsSpellNone.Statement .leaseRenew := fun _ _ => by simp [decodeTableWord_none]
theorem WordsSpellNone.leaseGive : WordsSpellNone.Statement .leaseGive := fun _ _ => by simp [decodeTableWord_none]
theorem WordsSpellNone.noticeAck : WordsSpellNone.Statement .noticeAck := fun _ _ => by simp [decodeTableWord_none]
theorem WordsSpellNone.applyStart : WordsSpellNone.Statement .applyStart := fun _ _ => by simp [decodeTableWord_none]
theorem WordsSpellNone.write (v : Verify) : WordsSpellNone.Statement (.write v) := fun _ _ => by simp [decodeTableWord_none]
theorem WordsSpellNone.clear (v : Verify) : WordsSpellNone.Statement (.clear v) := fun _ _ => by simp [decodeTableWord_none]
theorem WordsSpellNone.refill (v : Verify) : WordsSpellNone.Statement (.refill v) := fun _ _ => by simp [decodeTableWord_none]
theorem WordsSpellNone.bar (v : Verify) : WordsSpellNone.Statement (.bar v) := fun _ _ => by simp [decodeTableWord_none]
theorem WordsSpellNone.unbar (v : Verify) : WordsSpellNone.Statement (.unbar v) := fun _ _ => by simp [decodeTableWord_none]
theorem WordsSpellNone.clearBank (vs : List (UsableTag × Verify)) : WordsSpellNone.Statement (.clearBank vs) := fun _ _ => by simp [decodeTableWord_none]
theorem WordsSpellNone.bankEnd : WordsSpellNone.Statement .bankEnd := fun _ _ => by simp [decodeTableWord_none]
theorem WordsSpellNone.startUpClear (v : Verify) : WordsSpellNone.Statement (.startUpClear v) := fun _ _ => by simp [decodeTableWord_none]
theorem WordsSpellNone.toutOpportunity (order : List PortId) : WordsSpellNone.Statement (.toutOpportunity order) := fun _ _ => by simp [decodeTableWord_none]
theorem WordsSpellNone.holdQueueDrain : WordsSpellNone.Statement .holdQueueDrain := fun _ _ => by simp [decodeTableWord_none]
theorem WordsSpellNone.portSignalPresent (n : PortId) : WordsSpellNone.Statement (.portSignalPresent n) := fun _ _ => by simp [decodeTableWord_none]
theorem WordsSpellNone.portSignalLost (n : PortId) (begun : Bool) : WordsSpellNone.Statement (.portSignalLost n begun) := fun _ _ => by simp [decodeTableWord_none]
theorem WordsSpellNone.portArrival (n : PortId) (bytes : List Byte) : WordsSpellNone.Statement (.portArrival n bytes) := fun _ _ => by simp [decodeTableWord_none]
theorem WordsSpellNone.align (n : PortId) : WordsSpellNone.Statement (.align n) := fun _ _ => by simp [decodeTableWord_none]
theorem WordsSpellNone.alignAck (n : PortId) (token : Byte) : WordsSpellNone.Statement (.alignAck n token) := fun _ _ => by simp [decodeTableWord_none]
theorem WordsSpellNone.credit (n : PortId) (amount : Byte) : WordsSpellNone.Statement (.credit n amount) := fun _ _ => by simp [decodeTableWord_none]
theorem WordsSpellNone.portOpportunity (n : PortId) : WordsSpellNone.Statement (.portOpportunity n) := fun _ _ => by simp [decodeTableWord_none]
theorem WordsSpellNone.resendTimerExpiry (n : PortId) : WordsSpellNone.Statement (.resendTimerExpiry n) := fun _ _ => by simp [decodeTableWord_none]
theorem WordsSpellNone.stallTimerExpiry (n : PortId) : WordsSpellNone.Statement (.stallTimerExpiry n) := fun _ _ => by simp [decodeTableWord_none]
theorem WordsSpellNone.silenceTimeout (n : PortId) : WordsSpellNone.Statement (.silenceTimeout n) := fun _ _ => by simp [decodeTableWord_none]
theorem WordsSpellNone.ackTimerExpiry : WordsSpellNone.Statement .ackTimerExpiry := fun _ _ => by simp [decodeTableWord_none]
theorem WordsSpellNone.leaseTimerExpiry : WordsSpellNone.Statement .leaseTimerExpiry := fun _ _ => by simp [decodeTableWord_none]
theorem WordsSpellNone.eventReport (b : Block) : WordsSpellNone.Statement (.eventReport b) := fun _ _ => by simp [decodeTableWord_none]

end Sys2Proof.Laws
end

