-- ==== Sys2Proof/Laws/Table.lean ====
section
/-! SUPPORT. The circuit table: a read after a write, and the canonical form that every write keeps. -/

namespace Sys2Proof.Machine

/-! ### A read after a write -/

/-- A position that stands below every listed one is not listed. -/
theorem tableRead_of_below {t : Table} {n : Nat} (h : ∀ e ∈ t, n < e.1) : tableRead t n = Record.cleared := by
  induction t with
  | nil => rfl
  | cons e rest ih =>
    obtain ⟨k, x⟩ := e
    have hk : n < k := h (k, x) (by simp)
    simp [tableRead, show k ≠ n by omega, ih fun e he => h e (by simp [he])]

/-- Writing a record over a rising table and reading the same position gives the record. -/
theorem tableRead_tableWrite_same {t : Table} (n : Nat) (r : Record) (h : (t.map Prod.fst).Pairwise (· < ·)) :
    tableRead (tableWrite t n r) n = r := by
  induction t with
  | nil => by_cases hr : r = Record.cleared <;> simp [tableWrite, hr, tableRead]
  | cons e rest ih =>
    obtain ⟨k, x⟩ := e
    simp only [List.map_cons, List.pairwise_cons, List.mem_map] at h
    obtain ⟨hk, hrest⟩ := h
    have below : ∀ e ∈ rest, k < e.1 := fun e he => hk e.1 ⟨e, he, rfl⟩
    simp only [tableWrite]
    split
    · simp [tableRead, show k ≠ n by omega, ih hrest]
    · split
      · split
        · subst_vars; exact tableRead_of_below below
        · simp [tableRead]
      · split
        · simp only [tableRead, show k ≠ n by omega, if_false]
          subst_vars; exact tableRead_of_below fun e he => by have := below e he; omega
        · simp [tableRead]

/-- Writing a record leaves every other position as it was. -/
theorem tableRead_tableWrite_other {t : Table} {n m : Nat} (r : Record) (h : m ≠ n) :
    tableRead (tableWrite t n r) m = tableRead t m := by
  induction t with
  | nil => by_cases hr : r = Record.cleared <;> simp [tableWrite, hr, tableRead, Ne.symm h]
  | cons e rest ih =>
    obtain ⟨k, x⟩ := e
    simp only [tableWrite]
    split
    · simp [tableRead, ih]
    · have h' : n ≠ m := Ne.symm h
      split
      · subst_vars; split <;> simp [tableRead, h']
      · split <;> simp [tableRead, h']

/-! ### The canonical form -/

/-- Every position listed after a write is the one written or was listed before. -/
theorem mem_tableWrite {t : Table} {n : Nat} {r : Record} {e : Nat × Record} (h : e ∈ tableWrite t n r) :
    e = (n, r) ∧ r ≠ Record.cleared ∨ e ∈ t := by
  induction t with
  | nil => by_cases hr : r = Record.cleared <;> simp_all [tableWrite]
  | cons x rest ih =>
    obtain ⟨k, y⟩ := x
    simp only [tableWrite] at h
    split at h
    · rcases List.mem_cons.1 h with rfl | h
      · simp
      · rcases ih h with h | h <;> simp [h]
    · split at h
      · split at h
        · simp [h]
        · rcases List.mem_cons.1 h with rfl | h <;> simp_all
      · split at h
        · simp_all
        · rcases List.mem_cons.1 h with rfl | h <;> simp_all

/-- A rising table stays rising. -/
theorem tableWrite_rising {t : Table} (n : Nat) (r : Record) (h : (t.map Prod.fst).Pairwise (· < ·)) :
    ((tableWrite t n r).map Prod.fst).Pairwise (· < ·) := by
  induction t with
  | nil => by_cases hr : r = Record.cleared <;> simp [tableWrite, hr]
  | cons x rest ih =>
    obtain ⟨k, y⟩ := x
    simp only [List.map_cons, List.pairwise_cons] at h
    obtain ⟨hk, hrest⟩ := h
    simp only [tableWrite]
    split
    · simp only [List.map_cons, List.pairwise_cons]
      refine ⟨fun a ha => ?_, ih hrest⟩
      obtain ⟨e, he, rfl⟩ := List.mem_map.1 ha
      rcases mem_tableWrite he with ⟨rfl, -⟩ | he
      · assumption
      · exact hk _ (List.mem_map_of_mem he)
    · split
      · split
        · exact hrest
        · subst_vars; simpa using ⟨by simpa using hk, hrest⟩
      · have low : ∀ a ∈ k :: rest.map Prod.fst, n < a := by
          intro a ha
          rcases List.mem_cons.1 ha with rfl | ha
          · omega
          · have := hk a ha; omega
        split
        · simpa using ⟨by simpa using hk, hrest⟩
        · simp only [List.map_cons, List.pairwise_cons]
          exact ⟨low, hk, hrest⟩

/-- Every write of a usable record keeps the canonical form of the table. -/
theorem tableWrite_wf {t : Table} {n : Nat} (r : Record) (h : tableWf t = true) (hn : n < 4095) :
    tableWf (tableWrite t n r) = true := by
  simp only [tableWf, Bool.and_eq_true, decide_eq_true_eq, List.all_eq_true] at h ⊢
  refine ⟨tableWrite_rising n r h.1, fun e he => ?_⟩
  rcases mem_tableWrite he with ⟨rfl, hr⟩ | he
  · exact ⟨hn, hr⟩
  · exact h.2 e he

/-- A table in canonical form is rising. -/
theorem tableWf_rising {t : Table} (h : tableWf t = true) : (t.map Prod.fst).Pairwise (· < ·) := by
  simp only [tableWf, Bool.and_eq_true, decide_eq_true_eq] at h
  exact h.1

/-- The table after reset has its canonical form. -/
theorem reset_table_wf : tableWf State.reset.table = true := by decide

/-- The records of a table satisfy what its listed records and the cleared record satisfy. -/
theorem tableRead_of_listed {p : Record → Prop} {t : Table} (hc : p Record.cleared) (h : ∀ e ∈ t, p e.2) (n : Nat) :
    p (tableRead t n) := by
  induction t with
  | nil => exact hc
  | cons e rest ih =>
    obtain ⟨k, x⟩ := e
    simp only [tableRead]
    split
    · exact h (k, x) (by simp)
    · exact ih fun e he => h e (by simp [he])

/-! ### The records of a state -/

/-- A record written to a rising table is the one read back. -/
theorem State.record_setRecord_same (s : State) (n : Nat) (r : Record) (h : (s.table.map Prod.fst).Pairwise (· < ·)) :
    (s.setRecord n r).record n = r := tableRead_tableWrite_same n r h

/-- Writing a record leaves the others as they were. -/
theorem State.record_setRecord_other (s : State) {n m : Nat} (r : Record) (h : m ≠ n) :
    (s.setRecord n r).record m = s.record m := tableRead_tableWrite_other r h

/-- What a written and verified record becomes, and what is handed to the Notice Unit (R14, R55). -/
theorem State.writeVerified_cases (s : State) (n : Nat) (c : Content) (v : Verify) :
    s.writeVerified n c v = (s.writeContent n c, true) ∨
    ∃ read, v = .fails read ∧ s.writeVerified n c v =
      ((s.writeContent n (faultedContent read)).hand .updateEngine (tagReport .recordFault n verifyDetail), false) := by
  cases v <;> simp [State.writeVerified]

end Sys2Proof.Machine
end

