-- ==== Sys2Proof/Laws/Requests.lean ====
section
/-! SUPPORT. What executing a request can do: the frame of every request, and the one lemma from which the result of each
request follows once its handler is known. -/

namespace Sys2Proof.Machine

/-! ### The frame is a preorder -/

theorem RequestFrame.rfl' (s : State) : RequestFrame s s := by
  constructor <;> intros <;> simp

theorem RequestFrame.trans {s t u : State} (h : RequestFrame s t) (k : RequestFrame t u) : RequestFrame s u where
  held := k.held.trans h.held
  nodeState := k.nodeState.trans h.nodeState
  tin := k.tin.trans h.tin
  rx := k.rx.trans h.rx
  table := k.table.trans h.table
  banks := k.banks.trans h.banks
  clearNext := k.clearNext.trans h.clearNext
  steer := k.steer.trans h.steer
  batch := k.batch.trans h.batch
  rotation := k.rotation.trans h.rotation
  sched := k.sched.trans h.sched
  tout := k.tout.trans h.tout
  ports := k.ports.trans h.ports
  address := k.address.trans h.address
  unitNumber := k.unitNumber.trans h.unitNumber
  lmgt := k.lmgt.trans h.lmgt
  settings := k.settings.trans h.settings
  noticeQueue := k.noticeQueue.trans h.noticeQueue
  noticeNumber := k.noticeNumber.trans h.noticeNumber
  lost := k.lost.trans h.lost
  handed := k.handed.trans h.handed
  draws := k.draws.trans h.draws
  pending := k.pending.trans h.pending
  queues := fun q h1 h2 => (k.queues q h1 h2).trans (h.queues q h1 h2)
  floors := fun q => ⟨(k.floors q).1.trans (h.floors q).1, (k.floors q).2.1.trans (h.floors q).2.1,
    (k.floors q).2.2.trans (h.floors q).2.2⟩
  tails := fun q => (h.tails q).trans (k.tails q)

/-! ### The operations of the Agent's frame -/

theorem State.queue_countAgent' (s : State) (f : AgentCounters → AgentCounters) : (s.countAgent f).queues = s.queues := rfl

/-- A claim on a management queue is within the frame of every request. -/
theorem State.claim_frame (s : State) (o : Origin) (e : Entry) : RequestFrame s (s.claim (mgmtQueue o) e).1 where
  held := by simp
  nodeState := by simp
  tin := by simp
  rx := by simp
  table := by simp
  banks := by simp
  clearNext := by simp
  steer := by simp
  batch := by simp
  rotation := by simp
  sched := by simp
  tout := by simp
  ports := by simp
  address := by simp
  unitNumber := by simp
  lmgt := by simp
  settings := by simp
  noticeQueue := by simp
  noticeNumber := by simp
  lost := by simp
  handed := by simp
  draws := by simp
  pending := by simp
  queues := fun q h1 h2 => s.claim_queue_other e (by cases o <;> simpa [mgmtQueue])
  floors := fun q => by
    by_cases h : q = mgmtQueue o
    · subst h; exact s.claim_queue_kept _ e
    · simp [s.claim_queue_other e h]
  tails := fun q => by
    by_cases h : q = mgmtQueue o
    · subst h
      rcases s.claim_cases (mgmtQueue o) e with ⟨-, hc⟩ | ⟨-, hc⟩ <;> simp [hc]
    · simp [s.claim_queue_other e h]

/-- Changes to the agent counters, the origin table, the origins' past and the cells in hands are within the frame. -/
theorem RequestFrame.agentWork (s : State) (os : List OriginEntry) (ps : List OriginPast) (hs : List HandCell)
    (c : AgentCounters) :
    RequestFrame s { s with agent := { s.agent with origins := os, past := ps, hands := hs }, agentCtr := c } := by
  constructor <;> intros <;> first | rfl | exact ⟨rfl, rfl, rfl⟩

/-- What an offered response can do: its cell is admitted and counted, or refused and counted (R149). -/
theorem State.offerResponse_cases (s : State) (o : Origin) (c : Cell) :
    (s.admits (mgmtQueue o) = true ∧ s.offerResponse o c =
      (s.claim (mgmtQueue o) { cell := c, source := .agent, marked := false }).1.countAgent
        fun k => { k with responsesQueued := k.responsesQueued + 1 }) ∨
    (s.admits (mgmtQueue o) = false ∧ s.offerResponse o c =
      (s.claim (mgmtQueue o) { cell := c, source := .agent, marked := false }).1.countAgent
        fun k => { k with responsesLost := k.responsesLost + 1 }) := by
  rcases s.claim_cases (mgmtQueue o) { cell := c, source := .agent, marked := false } with ⟨ha, hc⟩ | ⟨ha, hc⟩ <;>
    simp [State.offerResponse, hc, ha]

theorem RequestFrame.countAgent (s : State) (f : AgentCounters → AgentCounters) : RequestFrame s (s.countAgent f) :=
  RequestFrame.agentWork s s.agent.origins s.agent.past s.agent.hands (f s.agentCtr)

theorem RequestFrame.countNotice (s : State) (f : NoticeCounters → NoticeCounters) : RequestFrame s (s.countNotice f) := by
  constructor <;> intros <;> first | rfl | exact ⟨rfl, rfl, rfl⟩

theorem RequestFrame.leaseChange (s : State) (l : Lease) : RequestFrame s { s with lease := l } := by
  constructor <;> intros <;> first | rfl | exact ⟨rfl, rfl, rfl⟩

theorem RequestFrame.notePast (s : State) (o : Origin) (q : BitVec 16) (a : Bool) : RequestFrame s (s.notePast o q a) :=
  RequestFrame.agentWork s s.agent.origins _ s.agent.hands s.agentCtr

theorem RequestFrame.setHands (s : State) (hs : List HandCell) : RequestFrame s (s.setHands hs) :=
  RequestFrame.agentWork s s.agent.origins s.agent.past hs s.agentCtr

theorem RequestFrame.onEntry (s : State) (o : Origin) (f : OriginEntry → OriginEntry) : RequestFrame s (s.onEntry o f) :=
  RequestFrame.agentWork s _ s.agent.past s.agent.hands s.agentCtr

theorem RequestFrame.offerResponse (s : State) (o : Origin) (c : Cell) : RequestFrame s (s.offerResponse o c) := by
  rcases s.offerResponse_cases o c with ⟨-, h⟩ | ⟨-, h⟩ <;> rw [h] <;>
    exact (s.claim_frame o _).trans (RequestFrame.countAgent _ _)

@[simp] theorem State.offerResponse_agent (s : State) (o : Origin) (c : Cell) : (s.offerResponse o c).agent = s.agent := by
  rcases s.offerResponse_cases o c with ⟨-, h⟩ | ⟨-, h⟩ <;> simp [h]

@[simp] theorem State.offerResponse_lease (s : State) (o : Origin) (c : Cell) : (s.offerResponse o c).lease = s.lease := by
  rcases s.offerResponse_cases o c with ⟨-, h⟩ | ⟨-, h⟩ <;> simp [h]

@[simp] theorem State.offerResponse_notices (s : State) (o : Origin) (c : Cell) :
    (s.offerResponse o c).notices = s.notices := by
  rcases s.offerResponse_cases o c with ⟨-, h⟩ | ⟨-, h⟩ <;> simp [h]

/-- Dealing with a cell that is not executed is within the frame (R142, R144, R150). -/
theorem RequestFrame.dispose (s : State) (m : HandCell) (v : Verdict) : RequestFrame s (s.dispose m v) := by
  have hc : RequestFrame s s.consume := RequestFrame.countAgent _ _
  cases v <;> simp only [State.dispose] <;>
    first
    | exact hc
    | exact hc.trans (RequestFrame.countAgent _ _)
    | exact (hc.trans (RequestFrame.countAgent _ _)).trans (RequestFrame.offerResponse _ _ _)
    | exact ((hc.trans (RequestFrame.countAgent _ _)).trans (RequestFrame.notePast _ _ _ _)).trans
        (RequestFrame.offerResponse _ _ _)

/-- Dealing with such a cell changes nothing of the Agent but the origins' past, and neither the lease nor the notices. -/
theorem State.dispose_kept (s : State) (m : HandCell) (v : Verdict) :
    (s.dispose m v).agent = { s.agent with past := (s.dispose m v).agent.past } ∧ (s.dispose m v).lease = s.lease ∧
    (s.dispose m v).notices = s.notices := by
  cases v <;> simp [State.dispose, State.consume, State.notePast]

/-- The Agent's dealing with the cells in its hands is within the frame, and keeps the origin table, the lease and the
notices. -/
theorem settleHands_frame (hs : List HandCell) (s : State) : RequestFrame s (settleHands hs s) ∧
    (settleHands hs s).agent.origins = s.agent.origins ∧ (settleHands hs s).lease = s.lease ∧
    (settleHands hs s).notices = s.notices := by
  induction hs generalizing s with
  | nil => exact ⟨RequestFrame.setHands _ _, rfl, rfl, rfl⟩
  | cons m rest ih =>
    simp only [settleHands]
    split
    · exact ⟨RequestFrame.setHands _ _, rfl, rfl, rfl⟩
    · obtain ⟨hf, ho, hl, hn⟩ := ih (s.dispose m (s.verdict m))
      obtain ⟨ka, kl, kn⟩ := s.dispose_kept m (s.verdict m)
      exact ⟨(RequestFrame.dispose _ _ _).trans hf, by rw [ho, ka], by rw [hl, kl], by rw [hn, kn]⟩

/-- The cells the Agent still has in hands after dealing with them begin with one it is to execute or to hand on. -/
theorem settleHands_first (hs : List HandCell) (s : State) :
    (settleHands hs s).agent.hands = [] ∨ ∃ m rest, (settleHands hs s).agent.hands = m :: rest ∧
      ((settleHands hs s).verdict m = .ack ∨ (settleHands hs s).verdict m = .execute) := by
  induction hs generalizing s with
  | nil => exact .inl rfl
  | cons m rest ih =>
    simp only [settleHands]
    split
    · exact .inr ⟨m, rest, rfl, ‹_›⟩
    · exact ih _

/-! ### Entering a request -/

/-- Two states that differ in the Agent's own bookkeeping alone. -/
def SameBlocks (s t : State) : Prop :=
  t = { s with
    agent := { s.agent with origins := t.agent.origins, past := t.agent.past, hands := t.agent.hands }
    agentCtr := t.agentCtr }

theorem SameBlocks.frame {s t : State} (h : SameBlocks s t) : RequestFrame s t := by
  rw [h]; exact RequestFrame.agentWork _ _ _ _ _

/-- Entering a request changes the Agent's bookkeeping alone (R142, R144). -/
theorem State.entered_sameBlocks (s : State) (m : HandCell) (rest : List HandCell) : SameBlocks s (s.entered m rest) := by
  unfold SameBlocks State.entered State.enterOrigin
  dsimp only
  split
  · rfl
  · split <;> rfl

/-- The entry of a request's origin once the request is entered: its sequence is the last one (R144). -/
theorem State.entered_entry (s : State) (m : HandCell) (rest : List HandCell) :
    ∃ e, (s.entered m rest).entryOf m.origin = some e ∧ e.lastSeq = m.cell.reqSeq ∧ e.origin = m.origin := by
  unfold State.entered State.enterOrigin
  dsimp only
  split
  · rename_i e he
    have ho : e.origin = m.origin := by simpa using List.find?_some he
    exact ⟨{ e with lastSeq := m.cell.reqSeq }, by simp [State.entryOf, ho], rfl, ho⟩
  · refine ⟨{ origin := m.origin, lastSeq := m.cell.reqSeq, resp := .pending, owed := none }, ?_, rfl, rfl⟩
    split <;> simp [State.entryOf]

/-! ### The past of an origin -/

/-- What noting a sequence can do to the requests whose repeats are new: none but the noted one is added, and that one is among
them afterwards exactly when it is noted so (log entry 28). -/
theorem OriginPast.mem_noted_anew (p : OriginPast) (seq x : BitVec 16) (anew : Bool) :
    x ∈ (p.noted seq anew).anew ↔
      if x = seq then anew = true
      else x ∈ p.anew ∧ newerSeq x (if newerSeq seq p.latest then seq else p.latest) = false := by
  unfold OriginPast.noted
  by_cases h : x = seq <;> cases anew <;> simp [h]

/-- After a NODE-RESET, the requests of an origin whose repeats are new are those it had had executed, and those that were so
before, but for the NODE-RESET itself (R164). -/
theorem Agent.takesAnew_atReset (a : Agent) (o r : Origin) (seq own : BitVec 16) :
    Agent.takesAnew { a with past := a.past.map fun p : OriginPast => p.atReset r own } o seq = true ↔
      (∃ p ∈ a.past, p.origin = o ∧ (seq ∈ p.since ∨ seq ∈ p.anew)) ∧ ¬(o = r ∧ seq = own) := by
  simp only [Agent.takesAnew, List.any_map, List.any_eq_true, Function.comp, Bool.and_eq_true, decide_eq_true_eq,
    List.contains_iff_mem, OriginPast.atReset, List.mem_filter, List.mem_append, Bool.not_eq_true', Bool.and_eq_false_iff,
    decide_eq_false_iff_not]
  constructor
  · rintro ⟨p, hp, ho, hx, hn⟩
    exact ⟨⟨p, hp, ho, hx⟩, fun ⟨h1, h2⟩ => hn.elim (fun k => k (ho.trans h1)) fun k => k h2⟩
  · rintro ⟨⟨p, hp, ho, hx⟩, hn⟩
    refine ⟨p, hp, ho, hx, ?_⟩
    by_cases h : p.origin = r
    · exact .inr fun k => hn ⟨ho.symm.trans h, k⟩
    · exact .inl h

/-- After hardware reset, the requests of an origin whose repeats are new are those that were so before it, and the NODE-RESET
that was the last the node executed (R193). -/
theorem Agent.takesAnew_atHardwareReset (a : Agent) (o : Origin) (seq : BitVec 16) :
    Agent.takesAnew { a with past := a.past.map OriginPast.atHardwareReset } o seq = true ↔
      ∃ p ∈ a.past, p.origin = o ∧ (p.reset = some seq ∨ seq ∈ p.anew) := by
  simp only [Agent.takesAnew, List.any_map, List.any_eq_true, Function.comp, Bool.and_eq_true,
    List.contains_iff_mem, OriginPast.atHardwareReset, List.mem_append, Option.mem_toList]
  exact exists_congr fun p => and_congr_right fun _ => and_congr_left fun _ => decide_eq_true_iff

/-! ### Responses -/

/-- The cells the node builds depend on the settings and the address alone. -/
theorem State.response_congr {s t : State} (ha : t.agent.address = s.agent.address)
    (hs : t.agent.settings = s.agent.settings) (o : Origin) (seq : BitVec 16) (code : Byte) (st : Status)
    (body : List Byte) : t.response o seq code st body = s.response o seq code st body := by
  simp [State.response, State.nodeSource, ha, hs]

/-- Offering a NOTICE cell is within the frame, and keeps what the Agent and the lease logic own (R181). -/
theorem State.offerNotice_frame (s : State) (o : Origin) (e : NoticeEntry) : RequestFrame s (s.offerNotice o e) ∧
    (s.offerNotice o e).agent = s.agent ∧ (s.offerNotice o e).lease = s.lease ∧
    (s.offerNotice o e).notices = s.notices := by
  have hf := s.claim_frame o { cell := s.noticeCell o e, source := .notice, marked := false }
  unfold State.offerNotice
  rcases s.claim_cases (mgmtQueue o) { cell := s.noticeCell o e, source := .notice, marked := false } with
    ⟨-, hc⟩ | ⟨-, hc⟩ <;> rw [hc] at hf ⊢
  · exact ⟨hf, rfl, rfl, rfl⟩
  · exact ⟨hf.trans (RequestFrame.countNotice _ _), rfl, rfl, rfl⟩

/-- Changes to the retry state of the Notice Unit are within the frame. -/
theorem RequestFrame.retryState (s : State) (n : Notices) (hq : n.queue = s.notices.queue)
    (hn : n.nextNumber = s.notices.nextNumber) (hl : n.lost = s.notices.lost) :
    RequestFrame s { s with notices := n } := by
  constructor <;> intros <;> first | rfl | exact ⟨rfl, rfl, rfl⟩ | assumption

/-- A resend is within the frame, and keeps what the Agent and the lease logic own (R182). -/
theorem State.resendNotice_frame (s : State) (o : Origin) (e : NoticeEntry) (k : Nat) :
    RequestFrame s (s.resendNotice o e k) ∧ (s.resendNotice o e k).agent = s.agent ∧
    (s.resendNotice o e k).lease = s.lease := by
  obtain ⟨hf, ha, hl, -⟩ := s.offerNotice_frame o e
  unfold State.resendNotice
  generalize s.offerNotice o e = t at *
  refine ⟨(hf.trans (RequestFrame.countNotice t fun c => { c with noticesResent := c.noticesResent + 1 })).trans ?_, ha, hl⟩
  exact RequestFrame.retryState _ _ rfl rfl rfl

/-- Contact from an origin is within the frame, and keeps what the Agent and the lease logic own (R184). -/
theorem State.contact_frame (s : State) (o : Origin) : RequestFrame s (s.contact o) ∧
    (s.contact o).agent = s.agent ∧ (s.contact o).lease = s.lease := by
  unfold State.contact
  split
  · split
    · rename_i e _ _ _
      obtain ⟨h2, ha, hl⟩ :=
        State.resendNotice_frame { s with notices := { s.notices with unreachable := false } } o e 0
      exact ⟨(RequestFrame.retryState s { s.notices with unreachable := false } rfl rfl rfl).trans h2, ha, hl⟩
    · exact ⟨RequestFrame.rfl' s, rfl, rfl⟩
  · exact ⟨RequestFrame.rfl' s, rfl, rfl⟩

/-- What the lease logic and the Notice Unit make of a request: the lease is renewed for a requester that holds it
(R170). -/
theorem State.follow_frame (s : State) (leased : Bool) (o : Origin) : RequestFrame s (s.follow leased o) ∧
    (s.follow leased o).agent = s.agent ∧
    (s.follow leased o).lease =
      if leased = true ∧ s.lease.holder = some o then (s.leaseTo o).lease else s.lease := by
  by_cases h : leased = true ∧ s.lease.holder = some o
  · obtain ⟨hf, ha, hl⟩ := (s.leaseTo o).contact_frame o
    simp only [State.follow, h.1, State.renewFor, h.2, if_true, and_self]
    exact ⟨(RequestFrame.leaseChange s _).trans hf, ha, hl⟩
  · have : s.follow leased o = s.contact o := by
      unfold State.follow State.renewFor
      by_cases h1 : leased = true <;> simp_all
    rw [this, if_neg h]
    exact s.contact_frame o

/-- What a response leaves: the entry caches it, and its queue was offered it (R147 to R149). -/
theorem State.respond_spec (s : State) (r : Request) (st : Status) (body : List Byte) {x : OriginEntry}
    (hx : s.entryOf r.origin = some x) :
    RequestFrame s (s.respond r st body) ∧ (s.respond r st body).lease = s.lease ∧
    (s.respond r st body).notices = s.notices ∧
    (s.respond r st body).entryOf r.origin =
      some (x.answered (s.response r.origin r.seq r.code st body)) ∧
    (s.admits (mgmtQueue r.origin) = true → ((s.respond r st body).queue (mgmtQueue r.origin)).entries =
      (s.queue (mgmtQueue r.origin)).entries ++
        [{ cell := s.response r.origin r.seq r.code st body, source := .agent, marked := false }]) := by
  have hadm : ∀ f, (s.onEntry r.origin f).admits = s.admits := fun _ => rfl
  refine ⟨(RequestFrame.onEntry _ _ _).trans (RequestFrame.offerResponse _ _ _), by simp [State.respond, State.onEntry],
    by simp [State.respond, State.onEntry], ?_, fun h => ?_⟩
  · simp only [State.respond, State.entryOf, State.offerResponse_agent, State.onEntry] at hx ⊢
    have hp : ((fun e : OriginEntry => decide (e.origin = r.origin)) ∘ fun e : OriginEntry =>
        if e.origin = r.origin then e.answered (s.response r.origin r.seq r.code st body) else e) =
        fun e => decide (e.origin = r.origin) := by
      funext e; by_cases h : e.origin = r.origin <;> simp [h, OriginEntry.answered]
    have ho : x.origin = r.origin := by simpa using List.find?_some hx
    rw [List.find?_map, hp, hx]
    simp [ho]
  · rcases (s.onEntry r.origin fun e => e.answered (s.response r.origin r.seq r.code st body))
      |>.offerResponse_cases r.origin (s.response r.origin r.seq r.code st body) with ⟨-, hc⟩ | ⟨ha, -⟩
    · simp only [State.respond, hc]
      rcases State.claim_cases (s.onEntry r.origin fun e =>
        e.answered (s.response r.origin r.seq r.code st body)) (mgmtQueue r.origin)
        { cell := s.response r.origin r.seq r.code st body, source := .agent, marked := false } with ⟨-, hd⟩ | ⟨hn, -⟩
      · simp [hd]; rfl
      · rw [hadm] at hn; simp [h] at hn
    · rw [hadm] at ha; simp [h] at ha

/-- The result of every request that is answered, by its block or by a check of R147: when its handling, from the state in
which the request is entered, leaves `e` and this answer, the command completes, and the request was served (R147, R170). -/
theorem takeRequest_answered {s e : State} {m : HandCell} {rest : List HandCell} {code : Byte} {mine : Byte → Bool}
    {handler : Request → State → State × Reply} {st : Status} {body : List Byte} (ht : Takes s m rest code)
    (hm : mine code = true)
    (hdone : (s.entered m rest).handled m.cell.bodyMisfits m.request handler = (e, .answer st body))
    (hx : ∃ x, e.entryOf m.origin = some x ∧ x.lastSeq = m.cell.reqSeq) :
    Served (s.needsLease code) e (s.takeRequest mine handler) m.request st body := by
  obtain ⟨hheld, hhands, hv, hcode⟩ := ht
  have hneeds : (s.entered m rest).needsLease code = s.needsLease code := by
    rw [State.needsLease, s.entered_sameBlocks m rest]; rfl
  have hrun : s.takeRequest mine handler =
      settleHands ((e.respond m.request st body).follow (s.needsLease code) m.origin).agent.hands
        ((e.respond m.request st body).follow (s.needsLease code) m.origin) := by
    simp only [State.takeRequest, hhands, hheld, hv, hcode, hm, and_self, if_true, State.execute, hdone, State.concluded]
    simp [HandCell.request, hcode, hneeds]
  obtain ⟨x, hx, hseq⟩ := hx
  obtain ⟨rf, rl, -, re, rs⟩ := e.respond_spec m.request st body (x := x) hx
  generalize hu : e.respond m.request st body = u at *
  obtain ⟨ff, fo, fl⟩ := u.follow_frame (s.needsLease code) m.origin
  generalize hw : u.follow (s.needsLease code) m.origin = w at *
  obtain ⟨sf, so, sl, -⟩ := settleHands_frame w.agent.hands w
  rw [hrun]
  have frame : RequestFrame e (settleHands w.agent.hands w) := (rf.trans ff).trans sf
  refine ⟨⟨⟨x.answered (e.response m.request.origin m.request.seq m.request.code st body), ?_, hseq, ?_⟩,
    fun hadm => ?_⟩, frame, ?_⟩
  · unfold State.entryOf at re ⊢
    rw [so, fo]; exact re
  · rw [State.response_congr frame.address frame.settings]; simp [OriginEntry.answered, hseq, HandCell.request]
  · rw [State.response_congr frame.address frame.settings, ← rs hadm]
    exact (ff.tails _).trans (sf.tails _)
  · have hset : u.agent.settings = e.agent.settings := rf.settings
    have ho : m.request.origin = m.origin := rfl
    rw [sl, fl, rl, ho]
    by_cases h : s.needsLease code = true ∧ e.lease.holder = some m.origin
    · rw [if_pos h, if_pos h]; simp [hset]
    · rw [if_neg h, if_neg h]

/-- A request that reaches its block is handled by that block (R147). -/
theorem State.handled_of_reaches {s : State} {m : HandCell} {rest : List HandCell} (hr : Reaches s m)
    (hcat : catalogue.contains m.cell.code = true) (handler : Request → State → State × Reply) :
    (s.entered m rest).handled m.cell.bodyMisfits m.request handler = handler m.request (s.entered m rest) := by
  obtain ⟨hfit, hacc, hlease⟩ := hr
  have hsame := s.entered_sameBlocks m rest
  have haddr : (s.entered m rest).agent.address = s.agent.address := by rw [hsame]
  have hl : (s.entered m rest).lease = s.lease := by rw [hsame]
  have hneeds : (s.entered m rest).needsLease m.cell.code = s.needsLease m.cell.code := by simp [State.needsLease, haddr]
  have hacc' : (s.entered m rest).accessRefused m.origin m.cell.code = false := by
    rw [← hacc]; simp only [State.accessRefused, haddr]
  simp only [State.handled, HandCell.request, hfit, hcat, hacc', hneeds, Bool.not_true, Bool.false_eq_true, if_false]
  split
  · rename_i h
    exact absurd (by rw [hl, hlease h.1]) h.2
  · rfl

/-- The result of a request that reaches its block. -/
theorem takeRequest_served {s e : State} {m : HandCell} {rest : List HandCell} {code : Byte} {mine : Byte → Bool}
    {handler : Request → State → State × Reply} {st : Status} {body : List Byte} (ht : Takes s m rest code)
    (hr : Reaches s m) (hm : mine code = true) (hcat : catalogue.contains code = true)
    (hh : handler m.request (s.entered m rest) = (e, .answer st body))
    (hx : ∃ x, e.entryOf m.origin = some x ∧ x.lastSeq = m.cell.reqSeq) :
    Served (s.needsLease code) e (s.takeRequest mine handler) m.request st body :=
  takeRequest_answered ht hm (by rw [State.handled_of_reaches hr (by rw [ht.2.2.2]; exact hcat), hh]) hx

/-- A request is served from the state with its effect alone, when the effect leaves the Agent's bookkeeping out of
account. -/
theorem Served.of_sameBlocks {leased : Bool} {e d t : State} {r : Request} {st : Status} {body : List Byte}
    (hs : SameBlocks d e) (h : Served leased e t r st body) : Served leased d t r st body := by
  have hq : e.queues = d.queues := by rw [hs]
  have hl : e.lease = d.lease := by rw [hs]
  have hset : e.agent.settings = d.agent.settings := by rw [hs]
  have ha : e.admits = d.admits := by rw [hs]; rfl
  refine ⟨⟨h.answered.entry, fun hd => ?_⟩, hs.frame.trans h.frame, ?_⟩
  · have := h.answered.sent (by rw [ha]; exact hd)
    rwa [show e.queue = d.queue by funext q; simp [State.queue, hq]] at this
  · rw [h.lease, hl]; simp [hset]

/-- The result of a request whose handler changes nothing. -/
theorem takeRequest_served_unchanged {s : State} {m : HandCell} {rest : List HandCell} {code : Byte} {mine : Byte → Bool}
    {handler : Request → State → State × Reply} {st : Status} {body : List Byte} (ht : Takes s m rest code)
    (hr : Reaches s m) (hm : mine code = true) (hcat : catalogue.contains code = true)
    (hh : handler m.request (s.entered m rest) = (s.entered m rest, .answer st body)) :
    Served (s.needsLease code) s (s.takeRequest mine handler) m.request st body := by
  obtain ⟨x, h1, h2, -⟩ := s.entered_entry m rest
  exact (takeRequest_served ht hr hm hcat hh ⟨x, h1, h2⟩).of_sameBlocks (s.entered_sameBlocks m rest)

/-! ### The exact state -/

@[simp] theorem State.entered_hands (s : State) (m : HandCell) (rest : List HandCell) :
    (s.entered m rest).agent.hands = rest := by
  unfold State.entered State.enterOrigin
  dsimp only
  split
  · rfl
  · split <;> rfl

@[simp] theorem State.respond_hands (s : State) (r : Request) (st : Status) (body : List Byte) :
    (s.respond r st body).agent.hands = s.agent.hands := by
  simp [State.respond, State.onEntry]

@[simp] theorem State.follow_hands (s : State) (leased : Bool) (o : Origin) :
    (s.follow leased o).agent.hands = s.agent.hands := by rw [(s.follow_frame leased o).2.1]

/-- What executing a request comes to, when its handling from the entered state has this effect and gives this answer. -/
theorem takeRequest_served_eq {s : State} {m : HandCell} {rest : List HandCell} {code : Byte} {mine : Byte → Bool}
    {handler : Request → State → State × Reply} {effect : State → State} {st : Status} {body : List Byte}
    (ht : Takes s m rest code) (hm : mine code = true)
    (hdone : (s.entered m rest).handled m.cell.bodyMisfits m.request handler =
      (effect (s.entered m rest), .answer st body))
    (hhands : (effect (s.entered m rest)).agent.hands = rest) :
    s.takeRequest mine handler = s.served (s.needsLease code) effect st body := by
  obtain ⟨hheld, hcells, hv, hcode⟩ := ht
  have hneeds : (s.entered m rest).needsLease code = s.needsLease code := by
    rw [State.needsLease, s.entered_sameBlocks m rest]; rfl
  simp only [State.takeRequest, State.served, hcells, hheld, hv, hcode, hm, and_self, if_true, State.execute, hdone,
    State.concluded]
  simp [HandCell.request, hcode, hneeds, hhands]

/-- The result of a request that reaches its block, by the effect its block has: the command leaves exactly that state, and
the request was served. -/
theorem takeRequest_serves {s : State} {m : HandCell} {rest : List HandCell} {code : Byte} {mine : Byte → Bool}
    {handler : Request → State → State × Reply} {effect : State → State} {st : Status} {body : List Byte}
    (ht : Takes s m rest code) (hr : Reaches s m) (hm : mine code = true) (hcat : catalogue.contains code = true)
    (hh : handler m.request (s.entered m rest) = (effect (s.entered m rest), .answer st body))
    (hsame : SameBlocks (effect s) (effect (s.entered m rest)))
    (hhands : (effect (s.entered m rest)).agent.hands = rest)
    (hx : ∃ x, (effect (s.entered m rest)).entryOf m.origin = some x ∧ x.lastSeq = m.cell.reqSeq) :
    s.takeRequest mine handler = s.served (s.needsLease code) effect st body ∧
    Served (s.needsLease code) (effect s) (s.served (s.needsLease code) effect st body) m.request st body := by
  have heq : s.takeRequest mine handler = s.served (s.needsLease code) effect st body :=
    takeRequest_served_eq ht hm (by rw [State.handled_of_reaches hr (by rw [ht.2.2.2]; exact hcat), hh]) hhands
  refine ⟨heq, ?_⟩
  rw [← heq]
  exact (takeRequest_served ht hr hm hcat hh hx).of_sameBlocks hsame

end Sys2Proof.Machine
end

