-- ==== Sys2Proof/Tests/Slice0.lean ====
section
/-! SUPPORT. Tests. Each expected result is from the spec's text or worked examples, or by hand from its rules; the theorems
named `test_meets_…` show operands and states that meet the hypotheses of the statement of that name, clause by clause. -/

namespace Sys2Proof.Tests

open Sys2Proof.Machine

-- One theorem after another: the many small kernel evaluations below need no threads of their own.
set_option Elab.async false

/-! ### Small states -/

/-- A port that is UP, with credit in both directions. -/
def upPort : Port :=
  { Port.reset with state := .up, signal := true, token := 1, silenceTimer := true, dropCredit := 2, addCredits := 13 }

/-- A port that is ALIGNING. -/
def aligningPort : Port :=
  { Port.reset with
    state := .aligning, signal := true, token := 255, alignPending := true, resendTimer := true, stallTimer := true }

/-- A node that is READY and numbered 10, LMGT high, with nothing queued. -/
def ready : State :=
  { State.inReset [] 0x00A31F02 [] 0 [] with
    held := false
    nodeState := .ready
    tin := .active
    clearNext := 4095
    banks := #v[.serving, .serving, .serving, .serving]
    agent :=
      { address := some 10, unitNumber := 0x00A31F02, lmgt := true, settings := .reset, origins := [], past := [],
        hands := [] } }

/-- The start-up clear about to write this record. -/
def clearing (n : Nat) (banks : Vector BankState 4) : State :=
  { ready with nodeState := .starting, clearNext := n, banks := banks }

/-- Manager 5 holds the lease. -/
def leased : State := { ready with lease := .held (.trunk 5) 10 }

/-- A batch of manager 5 in this state, with these images staged. -/
def batched (x : BatchState) (staging : List Image) : State :=
  { leased with batch :=
    { state := x, id := 17, policy := some .hold, staging := staging, abortPending := false
      commit := if x = .waiting ∨ x = .applying then some (.trunk 5, 7) else none, outcomes := [] } }

/-- A bank is UPDATING in the apply of these images. -/
def updating (b : BankId) (policy : HoldPolicy) (staging : List Image) : State :=
  let s := (batched .applying staging).setBank b .updating
  { s with batch := { s.batch with policy := some policy } }

/-- One stored record. -/
def withRecord (s : State) (n : Nat) (c : Content) (good : Bool) : State :=
  { s with table := [(n, { content := c, good := good })] }

/-- An OPEN record. -/
def openContent : Content := { Content.cleared with state := .opened .pass, source := some 0 }

/-- A DATA cell. -/
def dataCell (tag : Tag) (hop : BitVec 4) : Cell :=
  { idleCell with tag := tag, kind := .data, cls := 1, seq := 255, hop := hop, len := 58 }

/-- A MGMT cell with this destination, source and code. -/
def mgmtTo (dest source code : Byte) (hop : BitVec 4) : Cell := mgmtCell hop dest source 7 code 0 []

/-- A queue entry. -/
def entry (c : Cell) (marked : Bool) : Entry := { cell := c, source := .trunk, marked := marked }

/-- A queue with these entries. -/
def queued (s : State) (q : QueueId) (es : List Entry) : State := s.setEntries q es

/-- A request from manager 5 in the Agent's hands, with sequence 7. -/
def request (code : Byte) (body : List Byte) : HandCell :=
  { fromLocal := false
    cell :=
      { idleCell with
        tag := mgmtTag, kind := .mgmt, cls := 3, hop := 9, len := BitVec.ofNat 6 (8 + body.length)
        payload := padTo 58 ([10, 5, 0, 7, code, 0, 0, BitVec.ofNat 8 body.length] ++ body) } }

/-- The state with that cell in the Agent's hands. -/
def holding (s : State) (m : HandCell) : State := s.setHands [m]

/-- The Agent is to execute this request, it carries this body, and it passes the checks of R147. -/
def asks (s : State) (code : Byte) (body : List Byte) : Bool :=
  let m := request code body
  let t := holding s m
  !t.held && decide (t.verdict m = .execute) && decide (m.cell.code = code) && decide (m.request.body = body) &&
  !m.cell.bodyMisfits && !t.accessRefused m.origin m.cell.code &&
  (!t.needsLease m.cell.code || decide (t.lease.holder = some m.origin))

/-- What `asks` decides is what the statements about requests suppose. -/
theorem asks_takes {s : State} {code : Byte} {body : List Byte} (h : asks s code body = true) :
    Takes (holding s (request code body)) (request code body) [] code ∧
    Reaches (holding s (request code body)) (request code body) ∧ (request code body).request.body = body := by
  simp only [asks, Bool.and_eq_true, Bool.not_eq_true', Bool.or_eq_true, decide_eq_true_eq] at h
  obtain ⟨⟨⟨⟨⟨⟨h1, h2⟩, h3⟩, h4⟩, h5⟩, h6⟩, h7⟩ := h
  refine ⟨⟨h1, rfl, h2, h3⟩, ⟨h5, h6, fun hn => ?_⟩, h4⟩
  rcases h7 with h7 | h7
  · rw [hn] at h7; exact absurd h7 (by decide)
  · exact h7

/-! ### Ill-formed commands -/

theorem test_wf_refuses_empty_trunk_arrival : (Instr.tinArrival []).wf = false := by decide
theorem test_wf_refuses_empty_port_arrival : (Instr.portArrival 3 []).wf = false := by decide
theorem test_wf_refuses_damage_to_rewrite_4095 :
    (Instr.recordDamage 0 { Content.cleared with rewrite := some 4095 }).wf = false := by decide
theorem test_wf_refuses_read_back_of_rewrite_4095 :
    (Instr.write (.fails { Content.cleared with rewrite := some 4095 })).wf = false ∧
    (Instr.clear (.fails { Content.cleared with rewrite := some 4095 })).wf = false ∧
    (Instr.refill (.fails { Content.cleared with rewrite := some 4095 })).wf = false ∧
    (Instr.bar (.fails { Content.cleared with rewrite := some 4095 })).wf = false ∧
    (Instr.unbar (.fails { Content.cleared with rewrite := some 4095 })).wf = false ∧
    (Instr.startUpClear (.fails { Content.cleared with rewrite := some 4095 })).wf = false := by decide
theorem test_wf_refuses_a_record_verified_twice :
    (Instr.clearBank [(7, .rewritten), (7, .stands)]).wf = false := by decide
theorem test_wf_refuses_clear_bank_read_back_of_rewrite_4095 :
    (Instr.clearBank [(7, .fails { Content.cleared with rewrite := some 4095 })]).wf = false := by decide
theorem test_wf_admits_rewrite_4094 :
    (Instr.recordDamage 4094 { Content.cleared with rewrite := some 4094 }).wf = true := by decide

/-! ### Formats: the spec's own values -/

/-- R112: the header bytes of the IDLE cell, its HCS B0h. -/
theorem test_idle_header : idleCell.frame.take 6 = [0x00, 0x08, 0x00, 0x00, 0x00, 0xB0] := by decide +kernel

/-- R48: the digest of an empty list is FFFFh. -/
theorem test_empty_digest : digestOf [] = 0xFFFF := by decide +kernel

/-- R95, by hand: 80h alone leaves the register at 07h after its first bit, which seven shifts carry to 89h. -/
theorem test_hcs_of_one_byte : hcsOf [0x80] = 0x89 := by decide +kernel

/-- Chapter 4, defaults: the reserve of the empty node is 212. -/
theorem test_default_reserve : ready.reserve = 212 ∧ ready.freeSlots = 512 := by decide +kernel

/-- Section 4, reservations under a transit burst: 20 cells in DQ1, 3 in AQ2 and 2 in MQT leave a reserve of 191 and 487
slots free. -/
theorem test_burst_reserve :
    let c := entry (dataCell 0 0) false
    let s := queued (queued (queued ready (dq 1) (List.replicate 20 c)) (aq 2) (List.replicate 3 c)) mqt [c, c]
    s.reserve = 191 ∧ s.freeSlots = 487 := by decide +kernel

/-! ### Single steps: the spec's worked examples -/

/-- Section 5, rotation in class 1, opportunity 1: the pointer names AQ1 and the winner is AQ2, so the pointer goes to AQ3. -/
theorem test_rotation_opportunity_1 :
    let c := entry (dataCell 0 1) false
    let s := queued (queued (queued ready (tq 1) [c, c, c]) (aq 0) [c]) (aq 2) [c, c]
    (match exec (.toutOpportunity []) { s with rotation := #v[0, 2, 0, 0] } with
      | .next t => decide (t.rotation[1] = 4 ∧ (t.queue (aq 2)).entries = [c] ∧ t.sched.cellsSent = 1)
      | _ => false) = true := by decide +kernel

/-- Section 6, add credit: AQ2 holds 3 of 24 with 13 credits out after a failed check left 12, so port 2 grants 9. -/
theorem test_credit_grant_of_9 :
    let c := entry (dataCell 0 1) false
    let s := (queued ready (aq 2) [c, c, c]).setPort 2 { upPort with addCredits := 12 }
    let x := s.setQueue (aq 2) { s.queue (aq 2) with floor := 24, ceiling := 24 }
    (match exec (.portOpportunity 2) x with
      | .next t => decide ((t.port 2).addCredits = 21 ∧
          ((t.port 2).sending.map fun f => f.take 3) = some [0x00, 0x3C, 0x09])
      | _ => false) = true := by decide +kernel

/-- Section 3.11: the commit response of the aborted apply, as the bank end of bank 2 builds it. -/
theorem test_aborted_apply_account :
    let image (op : Byte) (tag : BitVec 16) (b3 b11 : Byte) : Image :=
      [op] ++ bytes16 tag ++ [b3, 0, 0, 0, 0, 0, 0] ++ [0, b11]
    let list := [image 1 2100 0x20 0, image 3 40 0 1, image 4 3500 0 0, image 2 41 0 0, image 4 2100 0 0, image 5 44 0 0]
    let s := updating 2 .hold list
    let done (p t : Nat) (r : EditOutcome) : Outcome := { position := p, tag := t, result := r }
    let x := { s with batch := { s.batch with
      abortPending := true
      outcomes := [done 1 40 .skipped, done 3 41 .applied, done 5 44 .skipped, done 0 2100 .applied,
        done 4 2100 .applied] } }
    (match exec .bankEnd x with
      | .next t => decide (((t.queue mqt).entries.map fun e => (e.cell.status, e.cell.body)) =
          [(2, [17, 6, 0x0D, 0x05, 3, 2, 0, 2, 1, 0, 40, 2, 5, 0, 44, 2])] ∧ t.batch.state = .none ∧
          t.bank 2 = .serving ∧ t.bank 3 = .serving)
      | _ => false) = true := by decide +kernel

/-- Section 8, an expiry deferred by an apply: the lease goes OVERDUE, and the bank end of the empty remainder frees it. -/
theorem test_deferred_expiry :
    let s := updating 1 .hold []
    (match exec .leaseTimerExpiry s with
      | .next t =>
        decide (t.lease = .overdue (.trunk 5)) &&
        (match exec .bankEnd t with
          | .next u => decide (u.lease = .free ∧ u.handed = [{ block := .leaseLogic, report := leaseLost (.trunk 5) 1 }])
          | _ => false)
      | _ => false) = true := by decide +kernel

/-- Section 9, combining and loss: an acknowledgement after three lost reports appends NOTICES-LOST with detail 3. -/
theorem test_loss_accounted :
    let e : NoticeEntry :=
      { number := 40, type := .quotaSpent, subject := 12, detail := .none, repeats := 1, awaiting := true }
    let s := { ready with
      agent := { ready.agent with settings := { Settings.reset with destination := some (.trunk 5) } }
      notices := { Notices.reset with queue := [e], nextNumber := 56, lost := 3, ackTimer := some 100 } }
    let m := request 0x41 []
    let ack : HandCell := { m with cell := { m.cell with payload := m.cell.payload.set 3 40 } }
    (match exec .noticeAck (holding s ack) with
      | .next t => decide ((t.notices.queue.map fun x => (x.number, x.type, x.detail)) =
          [(56, .noticesLost, .count 3)] ∧ t.notices.lost = 0 ∧ t.noticeCtr.acksMatched = 1)
      | _ => false) = true := by decide +kernel

/-- R148, R153: a NODE-QUERY from manager 5 is answered OK on the management queue toward the trunk, with a 28-byte body that
begins with the vendor and part codes. -/
theorem test_node_query_answer :
    (match exec .nodeQuery (holding ready (request 0x01 [])) with
      | .next t => decide (((t.queue mqt).entries.map fun e => e.cell.payload.take 11) =
          [[5, 10, 0, 7, 0x01, 0x80, 0, 28, 0x5E, 0x4A, 0x16]])
      | _ => false) = true := by decide +kernel

/-! ### Operands and states that meet the hypotheses of each statement -/

/-- The Trunk Receiver takes the arrival of this cell's 64 bytes. -/
def arrives (s : State) (c : Cell) : Bool :=
  !s.held && decide (s.tin = .active) && trunkWellFormed c.frame && decide (cellOfBytes c.frame = c)

theorem arrives_takes {s : State} {c : Cell} (h : arrives s c = true) : TrunkTakes s c.frame c := by
  simp only [arrives, Bool.and_eq_true, Bool.not_eq_true', decide_eq_true_eq] at h
  exact ⟨h.1.1.1, h.1.1.2, h.1.2, h.2⟩

/-- Port n takes the arrival of this cell's 64 bytes. -/
def arrivesAt (s : State) (n : PortId) (c : Cell) : Bool :=
  s.portTakes n && portWellFormed c.frame && decide (cellOfBytes c.frame = c)

theorem arrivesAt_takes {s : State} {n : PortId} {c : Cell} (h : arrivesAt s n c = true) : PortTakes s n c.frame c := by
  simp only [arrivesAt, Bool.and_eq_true, decide_eq_true_eq] at h
  exact ⟨h.1.1, h.1.2, h.2⟩

/-- A queue that refuses every claim: it holds as many cells as its ceiling allows. -/
def full (s : State) (q : QueueId) : State :=
  let c := entry (dataCell 0 1) false
  s.setQueue q { s.queue q with entries := [c, c], floor := 2, ceiling := 2 }

/-- An AWAITING notice. -/
def awaitingNotice : NoticeEntry :=
  { number := 7, type := .quotaSpent, subject := 12, detail := .none, repeats := 255, awaiting := true }

/-- The destination of notices is manager 5. -/
def noticing (s : State) (n : Notices) : State :=
  { s with
    agent := { s.agent with settings := { s.agent.settings with destination := some (.trunk 5) } }
    notices := n }

/-- One edit image: its op, its tag or bank, byte 3 and the last byte. -/
def image (op : Byte) (tag : BitVec 16) (b3 b11 : Byte) : Image := [op] ++ bytes16 tag ++ [b3, 0, 0, 0, 0, 0, 0, 0, b11]

theorem test_meets_StepTakesTheFrontCommand : ready.pending = [] := by decide +kernel

/-- The queue laws of a state, decided. -/
def queueLawsDec (s : State) : Decidable (QueueLaws s) := by
  unfold QueueLaws BufferLaw ReserveLaw CeilingLaw AddQueueLaw PortCreditLaw PortTimerLaw
  infer_instance

/-- The queue laws hold. -/
def lawful (s : State) : Bool := @decide (QueueLaws s) (queueLawsDec s)

theorem lawful_laws {s : State} (h : lawful s = true) : QueueLaws s := @of_decide_eq_true _ (queueLawsDec s) h

/-- Each port in another state, and the law that a pending ALIGN in DOWN breaks. -/
theorem test_meets_EveryStepKeepsTheQueueLaws :
    let s := ((ready.setPort 0 upPort).setPort 1 aligningPort).setPort 2
      { aligningPort with stallReported := true, stallTimer := false, alignPending := false }
    lawful ready = true ∧ lawful (s.setPort 3 { Port.reset with state := .off }) = true ∧
    lawful (ready.setPort 3 { Port.reset with alignPending := true }) = false ∧ ready.pending = [] := by decide +kernel

theorem test_meets_EveryStepKeepsTheBatchAndLeaseLaws :
    StagingLaw leased ∧ OwnershipLaws leased ∧ SettingsLaw leased ∧ step leased = .next leased := by
  refine ⟨⟨by decide +kernel, by decide +kernel⟩, ⟨⟨?_, fun _ => rfl⟩, fun h => absurd rfl h, ?_, ?_, ?_, ?_, ?_⟩,
    ⟨by decide +kernel, by decide +kernel, by decide +kernel, by decide +kernel, ?_⟩, rfl⟩
  · rintro (h | h) <;> exact absurd h (by decide +kernel)
  · decide +kernel
  · decide +kernel
  · intro e he; exact absurd he (by simp [leased, ready])
  · intro o seq h; exact absurd h (by simp [leased, ready, State.inReset, Batch.reset])
  · intro e he; exact absurd he (by simp [leased, ready])
  · intro o n h
    have h' : Lease.held (.trunk 5) 10 = Lease.held o n := h
    cases h'; decide

theorem test_meets_EveryStepKeepsTheBankLaws :
    BankLaws ready ∧ BankLaws State.reset ∧ step ready = .next ready := by
  refine ⟨?_, ?_, rfl⟩
  · show ∀ b, ready.bank b = .serving; decide +kernel
  · refine ⟨rfl, rfl, fun b => ?_⟩
    fin_cases b <;> rfl

theorem test_meets_EveryStepKeepsTheRecordLaws : RecordLaws ready ∧ step ready = .next ready := by
  refine ⟨⟨⟨by decide +kernel, ?_, ?_⟩, fun n _ => ?_⟩, rfl⟩
  · decide +kernel
  · decide +kernel
  · exact trivial

theorem test_meets_EveryStepKeepsTheNoticeLaw :
    let s (timer : Option (BitVec 16)) (u : Bool) : State :=
      noticing ready { Notices.reset with queue := [awaitingNotice], retry := 4, ackTimer := timer, unreachable := u }
    NoticeLaw (s (some 100) false) ∧ NoticeLaw (s none true) ∧
    NoticeLaw { ready with notices := { Notices.reset with queue := [awaitingNotice] } } ∧ NoticeLaw ready ∧
    step (s none true) = .next (s none true) := by
  have h : ∃ e, [awaitingNotice].head? = some e ∧ e.awaiting = true := ⟨_, rfl, rfl⟩
  have no : ¬∃ e, ([] : List NoticeEntry).head? = some e ∧ e.awaiting = true := by simp
  refine ⟨⟨by unfold NoticeQueueLaw; decide +kernel, fun _ _ => .inr h, by simp [noticing, Notices.awaitingOldest, awaitingNotice], ?_⟩,
    ⟨by unfold NoticeQueueLaw; decide +kernel, fun _ hu => absurd hu (by decide), ?_, fun _ => ⟨by decide, h⟩⟩,
    ⟨by unfold NoticeQueueLaw; decide +kernel, fun hd => absurd rfl hd, ?_, ?_⟩,
    ⟨by unfold NoticeQueueLaw; decide +kernel, fun hd => absurd rfl hd, ?_, ?_⟩, rfl⟩
  · intro hu; exact absurd hu (by decide)
  · simp [noticing, Notices.reset]
  · simp [ready, Notices.reset, Settings.reset]
  · intro hu; exact absurd hu (by decide)
  · simp [ready, State.inReset, Notices.reset, Settings.reset]
  · intro hu; exact absurd hu (by decide)

theorem test_meets_EveryStepKeepsTheCountLaws : CountLaws ready ∧ step ready = .next ready :=
  ⟨⟨rfl, rfl⟩, rfl⟩

theorem test_meets_FramesParseBack : idleCell.payload.length = 58 ∧ idleCell.frame.length = 64 := by decide +kernel

theorem test_meets_EntryImagesStageBack :
    (0 : Tag).toNat ≤ 4094 ∧ (4094 : Tag).toNat ≤ 4094 ∧ openContent.rewriteWf = true ∧
    Content.cleared.rewriteWf = true ∧ { openContent with rewrite := some 4094, quota := some 0 }.rewriteWf = true := by
  decide +kernel

theorem test_meets_HardwareResetEndSamplesTheStraps : State.reset.held = true := rfl

theorem test_meets_RecordDamageSpoilsTheCheck :
    tableWf ready.table = true ∧ openContent ≠ (ready.record 0).content ∧ openContent ≠ (ready.record 4094).content := by
  decide +kernel

theorem test_meets_StartUpClearWritesTheNextRecord :
    let s := clearing 0 #v[.clearing, .unready, .unready, .unready]
    let t := clearing 4093 #v[.serving, .serving, .serving, .clearing]
    s.held = false ∧ s.nodeState = .starting ∧ s.clearNext < 4094 ∧ s.bank (bankOfNat s.clearNext) = .clearing ∧
    s.clearNext % 1024 ≠ 1023 ∧
    t.held = false ∧ t.nodeState = .starting ∧ t.clearNext < 4094 ∧ t.bank (bankOfNat t.clearNext) = .clearing ∧
    t.clearNext % 1024 ≠ 1023 := by decide +kernel

theorem test_meets_StartUpClearEndsABank :
    let s := clearing 3071 #v[.serving, .serving, .clearing, .unready]
    let t := clearing 4094 #v[.serving, .serving, .serving, .clearing]
    s.held = false ∧ s.nodeState = .starting ∧ s.clearNext < 4095 ∧ s.bank (bankOfNat s.clearNext) = .clearing ∧
    s.clearNext = 1024 * (2 : BankId).val + 1023 ∧ (2 : BankId).val < 3 ∧
    t.held = false ∧ t.nodeState = .starting ∧ t.clearNext = 4094 ∧ t.bank (bankOfNat t.clearNext) = .clearing ∧
    ((t.setPort 3 { Port.reset with signal := true }).port 3).signal = true ∧ (t.port 3).state = .down ∧
    (t.port 3).signal = false := by decide +kernel

/-- R120, R192: at tag 4094 the ports with a signal enter ALIGNING and report it in ascending order, after the fault of the
last record. -/
theorem test_ready_reports_in_port_order :
    let up := { Port.reset with signal := true, token := 255 }
    let s := ((clearing 4094 #v[.serving, .serving, .serving, .clearing]).setPort 3 up).setPort 1 up
    (match exec (.startUpClear (.fails openContent)) s with
      | .next t => decide (t.handed.map (fun h => (h.report.type, h.report.subject, h.report.detail)) =
          [(.recordFault, 4094, .code 2), (.linkChange, 1, .code 2), (.linkChange, 3, .code 2)] ∧
          (t.port 3).token = 0 ∧ (t.port 0).state = .down)
      | _ => false) = true := by decide +kernel

theorem test_meets_TinFollowsItsSignal :
    ready.held = false ∧ ready.tin = .active ∧ { ready with tin := .silent }.tin = .silent := by decide +kernel

theorem test_meets_TrunkReceiveChecks :
    let long := { dataCell 0 1 with len := 59 }
    let link := linkCell 0 0
    let data := dataCell 4095 1
    let mgmt := { mgmtTo 0 0 0 1 with tag := 4094 }
    let whole (c : Cell) : Prop := c.frame.length = 64 ∧ byteAt c.frame 5 = hcsOf (c.frame.take 5)
    ready.held = false ∧ ready.tin = .active ∧ [0x00#8].length ≠ 64 ∧
    (idleCell.frame.set 5 0).length = 64 ∧ byteAt (idleCell.frame.set 5 0) 5 ≠ hcsOf ((idleCell.frame.set 5 0).take 5) ∧
    whole link ∧ (cellOfBytes link.frame).kind = .link ∧
    whole long ∧ (cellOfBytes long.frame).kind ≠ .link ∧ 58 < (cellOfBytes long.frame).len.toNat ∧
    whole data ∧ (cellOfBytes data.frame).len.toNat ≤ 58 ∧ (cellOfBytes data.frame).kind = .data ∧
    (cellOfBytes data.frame).tag = 4095 ∧
    whole mgmt ∧ (cellOfBytes mgmt.frame).kind = .mgmt ∧ (cellOfBytes mgmt.frame).tag ≠ 4095 ∧
    whole idleCell ∧ (cellOfBytes idleCell.frame).kind = .idle := by decide +kernel

theorem test_meets_StartUpBypass :
    let s := clearing 0 #v[.clearing, .unready, .unready, .unready]
    arrives s (dataCell 4094 0) = true ∧ arrives s (dataCell 0 1) = true ∧ (dataCell 0 1).kind = .data ∧
    s.nodeState = .starting ∧ (dataCell 4094 0).hop = 0 ∧ (dataCell 0 1).hop ≠ 0 := by decide +kernel

/-- The conditions that the lookups of a trunk cell share. -/
def looksUp (s : State) (c : Cell) : Bool :=
  arrives s c && decide (c.kind = .data) && decide (s.nodeState = .ready) && !s.holds (bankOf c.tag) &&
  decide (s.bank (bankOf c.tag) = .serving)

theorem test_meets_TrunkCellMeetsAClosedRecord :
    let damaged := withRecord ready 0 openContent false
    let spent := withRecord ready 4094 { openContent with state := .spent .pass, quota := some 0 } true
    let barred := withRecord ready 4094 { openContent with state := .barred .sink } true
    let faulted := withRecord ready 4094 { openContent with state := .faulted none } true
    looksUp damaged (dataCell 0 1) = true ∧ (damaged.record 0).good = false ∧
    looksUp spent (dataCell 4094 1) = true ∧ (spent.record 4094).good = true ∧
    (spent.record 4094).content.state = .spent .pass ∧ (barred.record 4094).content.state = .barred .sink ∧
    (faulted.record 4094).content.state = .faulted none := by decide +kernel

theorem test_meets_TrunkCellMeetsAVacantRecord :
    let sink := { ready with agent := { ready.agent with settings := { Settings.reset with unknownTag := .sink } } }
    looksUp ready (dataCell 4094 0) = true ∧ looksUp ready (dataCell 0 1) = true ∧ looksUp sink (dataCell 0 1) = true ∧
    (ready.record 4094).good = true ∧ (ready.record 4094).content.state = .vacant ∧
    sink.agent.settings.unknownTag = .sink ∧ ready.agent.settings.unknownTag = .pass ∧ (dataCell 4094 0).hop = 0 ∧
    (dataCell 0 1).hop ≠ 0 := by decide +kernel

theorem test_meets_TrunkCellMeetsAnOpenRecord :
    let s (a : Action) := withRecord ready 4094
      { openContent with state := .opened a, quota := some 1, expected := some 0, rewrite := some 0, classOv := some 3 } true
    looksUp (s .pass) (dataCell 4094 0) = true ∧ looksUp (s (.drop 3)) (dataCell 4094 0) = true ∧
    looksUp (s (.tap 0)) (dataCell 4094 15) = true ∧ looksUp (s .sink) (dataCell 4094 1) = true ∧
    ((s (.drop 3)).record 4094).good = true ∧ ((s (.drop 3)).record 4094).content.state = .opened (.drop 3) := by
  decide +kernel

theorem test_meets_TrunkCellMeetsAnUpdate :
    let held := queued ready hq [entry (dataCell 1023 1) false]
    let s (p : HoldPolicy) := updating 0 p []
    arrives held (dataCell 0 1) = true ∧ held.holds (bankOf 0) = true ∧ held.admits hq = true ∧
    (full ready hq).admits hq = false ∧ (full ready hq).holds (bankOf 0) = true ∧
    arrives (s .hold) (dataCell 1023 1) = true ∧ (dataCell 1023 1).kind = .data ∧ (s .hold).nodeState = .ready ∧
    (s .hold).holds (bankOf 1023) = false ∧ (s .hold).bank (bankOf 1023) = .updating ∧
    (s .hold).batch.policy = some .hold ∧ (s .pass).batch.policy = some .pass ∧
    (s .discard).batch.policy = some .discard ∧ (dataCell 1023 0).hop = 0 ∧ arrives (s .pass) (dataCell 1023 0) = true := by
  decide +kernel

theorem test_meets_ManagementCellsAreRouted :
    let bare := { ready with agent := { ready.agent with address := none } }
    let other := mgmtTo 254 5 0x16 1
    arrives ready (mgmtTo 11 10 1 1) = true ∧ arrives ready (mgmtTo 10 5 1 1) = true ∧
    arrives ready (mgmtTo 11 5 1 0) = true ∧ arrives ready (mgmtTo 11 5 1 1) = true ∧
    arrives bare (mgmtTo 254 5 1 1) = true ∧ arrives bare other = true ∧
    (mgmtTo 11 10 1 1).kind = .mgmt ∧ (mgmtTo 11 10 1 1).sourceByte = 10 ∧ (mgmtTo 11 10 1 1).destination = 11 ∧
    (mgmtTo 10 5 1 1).destination = 10 ∧ (mgmtTo 11 5 1 0).hop = 0 ∧ (mgmtTo 11 5 1 0).sourceByte = 5 ∧
    bare.agent.address = none ∧ other.destination = 254 ∧ other.code = 0x16 ∧
    word32At other.payload 9 ≠ bare.agent.unitNumber := by decide +kernel

theorem test_meets_TheAgentScreensItsCells :
    let m := request 0x02 []
    let flagged := { m with cell := { m.cell with payload := m.cell.payload.set 5 0x80 } }
    let nowhere := { m with cell := { m.cell with payload := m.cell.payload.set 1 254 } }
    let e (k : BitVec 16) (r : RespState) : OriginEntry :=
      { origin := .trunk 5, lastSeq := k, resp := r, owed := none }
    let far := e 32775 (.cached idleCell)
    let past (xs : List (BitVec 16)) : List OriginPast :=
      [{ origin := .localMgr, latest := 7, since := [], anew := [7], reset := none },
       { origin := .trunk 5, latest := 8, since := [8, 6], anew := xs, reset := none }]
    let eight : List OriginEntry :=
      ([0, 1, 2, 3, 4, 6] : List Byte).map (fun a => { e 0 .pending with origin := .trunk a }) ++
        [{ e 0 .pending with origin := .trunk 8 }, { e 0 .pending with origin := .localMgr, owed := some 0 }]
    let s (x : OriginEntry) : State := { ready with agent := { ready.agent with origins := [x] } }
    let from7 (ps : List OriginPast) : Prop := ∃ p ∈ ps, p.origin = m.origin ∧ m.cell.reqSeq ∈ p.anew
    ready.agent.hands = [] ∧ flagged.cell.flagged = true ∧ nowhere.cell.flagged = false ∧ nowhere.fromLocal = false ∧
    254 ≤ nowhere.cell.sourceByte.toNat ∧ m.cell.flagged = false ∧ m.cell.sourceByte.toNat ≤ 253 ∧
    (request 0x41 []).cell.code = 0x41 ∧ m.cell.code ≠ 0x41 ∧ m.cell.code ≠ 0x01 ∧
    (clearing 0 #v[.clearing, .unready, .unready, .unready]).nodeState = .starting ∧ ready.nodeState = .ready ∧
    ready.entryOf m.origin = none ∧
    (s (e 7 (.cached idleCell))).entryOf m.origin = some (e 7 (.cached idleCell)) ∧ m.cell.reqSeq = 7 ∧
    (s (e 7 .pending)).entryOf m.origin = some (e 7 .pending) ∧
    (m.cell.reqSeq - 6).toNat = 1 ∧ (m.cell.reqSeq - 32776).toNat = 32767 ∧ (m.cell.reqSeq - 32775).toNat = 32768 ∧
    (s far).entryOf m.origin = some far ∧ (m.cell.reqSeq - far.lastSeq).toNat = 32768 ∧ (s far).agent.past = [] ∧
    from7 (past [5, 7]) ∧ ¬from7 (past [6, 8]) ∧
    (holding ready m).agent.hands = [m] ∧ (holding ready m).verdict m = .execute ∧
    (holding ready (request 0x41 [])).verdict (request 0x41 []) = .ack ∧
    (s far).agent.origins = [] ++ far :: [] ∧ far.origin = m.origin ∧ eight.length = 8 ∧
    (∀ x ∈ eight, x.origin ≠ m.origin) ∧ (∀ x ∈ eight.tail, x.origin ≠ m.origin) ∧ eight.tail.length < 8 ∧
    eight = eight.take 6 ++ { e 0 .pending with origin := .trunk 8 } :: eight.drop 7 ∧
    (∀ x ∈ eight.drop 7, x.owed ≠ none) := by decide +kernel

/-- Two images of each shape that differ in ignored bits alone: a WRITE with every flag clear, one with every flag set and the
action TAP, a REFILL and a CLEAR. -/
theorem test_meets_ImageValidity :
    let bare : Image := [1, 0, 9, 0x20, 0, 0, 0, 0, 0, 0, 0, 0]
    let bare' : Image := [1, 0, 9, 0x27, 0xC0, 255, 255, 255, 255, 255, 255, 255]
    let full : Image := [1, 0, 9, 0x73, 0x3F, 0x0F, 0xFE, 0xF0, 4, 5, 0, 1]
    let full' : Image := [1, 0, 9, 0x77, 0xFF, 0x0F, 0xFE, 0xFF, 4, 5, 0, 1]
    editOf bare = editOf bare' ∧ editOf bare ≠ none ∧ editOf full = editOf full' ∧ editOf full ≠ none ∧
    bare ≠ bare' ∧ full ≠ full' ∧ (byteAt full 3).extractLsb' 3 2 = 2 ∧ (byteAt full 4).extractLsb' 0 6 = 63 ∧
    editOf [3, 0, 9, 0, 0, 0, 0, 0, 0, 0, 0, 1] = editOf [3, 0, 9, 1, 2, 3, 4, 5, 6, 7, 0, 1] ∧
    editOf [2, 0, 9, 0, 0, 0, 0, 0, 0, 0, 0, 0] = editOf [2, 0, 9, 1, 2, 3, 4, 5, 6, 7, 8, 9] ∧
    digestOf [bare] ≠ digestOf [bare'] := by decide +kernel

/-- R164: after a NODE-RESET with sequence 7 a repeat of the request 5 that was executed before it is a new request; R144: the
sequence 6, which no request had, is stale; R195: the repeat of the NODE-RESET is answered from the cache. -/
theorem test_earlier_request_is_new_after_node_reset :
    let s : State := { leased with agent := { leased.agent with
      origins := [{ origin := .trunk 5, lastSeq := 5, resp := .cached idleCell, owed := none }]
      past := [{ origin := .trunk 5, latest := 5, since := [5, 4], anew := [], reset := none }] } }
    let t := match exec .nodeReset (holding s (request 0x15 [])) with | .next t => t | _ => s
    let cell := (request 0x01 []).cell
    let older (k : Byte) : HandCell := { fromLocal := false, cell := { cell with payload := cell.payload.set 3 k } }
    t.verdict (older 5) = .execute ∧ t.verdict (older 6) = .stale ∧ t.verdict (request 0x15 []) ≠ .execute ∧
    t.verdict (request 0x15 []) ≠ .stale := by decide +kernel

/-- R70: after a NODE-RESET, a repeat of the commit 7 from before it reaches the Update Engine once its origin holds the lease,
though the LEASE-TAKE 8 has been executed since: it is answered NO-BATCH, from the batch state NONE. -/
theorem test_commit_from_before_node_reset_finds_no_batch :
    let s : State := { leased with agent := { leased.agent with
      origins := [{ origin := .trunk 5, lastSeq := 8, resp := .cached idleCell, owed := none }]
      past := [{ origin := .trunk 5, latest := 8, since := [8], anew := [7], reset := none }] } }
    let m := request 0x22 [17, 0, 0xFF, 0xFF]
    (match exec .batchCommit (holding s m) with
      | .next t => decide ((t.queue mqt).entries.map Entry.cell = [s.response (.trunk 5) 7 0x22 .noBatch [0, 0]])
      | _ => false) = true := by decide +kernel

/-- R144: a request from before a NODE-RESET that has been executed again is one from after it; R70: a commit is not while
it is answered NOT-HOLDER. -/
theorem test_executed_again_is_no_longer_from_before :
    let p : OriginPast := { origin := .trunk 5, latest := 8, since := [8], anew := [7, 6], reset := none }
    let s (l : Lease) : State := { ready with lease := l, agent := { ready.agent with past := [p] } }
    let after (l : Lease) (code : Byte) := ((s l).entered (request code []) []).agent.past
    after .free 0x21 = [{ p with since := [7, 8], anew := [6] }] ∧ after .free 0x22 = [{ p with anew := [7, 6] }] ∧
    after (.held (.trunk 5) 9) 0x22 = [{ p with since := [7, 8], anew := [6] }] := by decide +kernel

/-- R189: the resend of a request answered STARTING is executed as new, though a newer NODE-QUERY has been executed since. -/
theorem test_resend_after_starting_is_new :
    let s : State := { ready with nodeState := .starting }
    let t := s.giveAgent (request 0x10 [])
    let u : State := { t with nodeState := .ready, agent := { t.agent with
      origins := [{ origin := .trunk 5, lastSeq := 8, resp := .cached idleCell, owed := none }] } }
    t.agent.hands = [] ∧ u.verdict (request 0x10 []) = .execute := by decide +kernel

/-- R193: after hardware reset the repeat of the NODE-RESET is executed as new, though a newer NODE-QUERY has been executed
since; another request executed before it is stale (R144). -/
theorem test_node_reset_is_new_after_hardware_reset :
    let p : OriginPast := { origin := .trunk 5, latest := 9, since := [9, 7], anew := [], reset := some 7 }
    let s : State := { ready with agent := { ready.agent with past := [p] } }
    let t := match exec .hardwareReset s with | .next t => t | _ => s
    let u : State := { t with nodeState := .ready, agent := { t.agent with
      origins := [{ origin := .trunk 5, lastSeq := 11, resp := .cached idleCell, owed := none }] } }
    let cell := (request 0x01 []).cell
    let nine : HandCell := { fromLocal := false, cell := { cell with payload := cell.payload.set 3 9 } }
    t.agent.past = [{ p with since := [], anew := [7], reset := none }] ∧ u.verdict (request 0x15 []) = .execute ∧
    u.verdict nine = .stale := by decide +kernel

theorem test_meets_ResponsesAreQueuedOrLost :
    ready.admits mqt = true ∧ ready.admits mql = true ∧ (full ready mqt).admits mqt = false ∧
    (full ready mql).admits mql = false ∧ (List.replicate 50 (0 : Byte)).length ≤ 50 := by decide +kernel

/-- R143: the entry is PENDING where the sequence has come round to that of the commit that is owed. -/
theorem test_pending_when_the_sequence_comes_round :
    let e : OriginEntry :=
      { origin := .trunk 5, lastSeq := 7, resp := .cached idleCell, owed := some 7 }
    (e.answered idleCell).resp = .pending ∧ ({ e with owed := some 6 }.answered idleCell).resp = .cached idleCell := by
  decide +kernel

/-- A claim below the floor, one at the ceiling, and one above the floor that the reserve refuses. -/
theorem test_meets_ClaimsFollowTheAdmissionRule :
    let c := entry (dataCell 0 1) false
    let s := (full ready 0).setQueue 1 { ready.queue 1 with entries := [c], floor := 330, ceiling := 512 }
    s.freeSlots = 509 ∧ s.reserve = 509 ∧ ready.admits 0 = true ∧ (full ready 0).admits 0 = false ∧
    (s.setQueue 0 { s.queue 0 with ceiling := 3 }).admits 0 = false := by decide +kernel

theorem test_meets_DrainTakesTheOldestServingCell :
    let first := entry (dataCell 1024 1) false
    let s (c : Content) (good : Bool) : State :=
      withRecord (queued (updating 1 .hold []) hq [first, entry (dataCell 4094 1) false, first]) 4094 c good
    (s openContent true).held = false ∧
    ((s openContent true).queue hq).entries = [first] ++ entry (dataCell 4094 1) false :: [first] ∧
    (∀ x ∈ [first], (s openContent true).bank (bankOf x.cell.tag) ≠ .serving) ∧
    (s openContent true).bank (bankOf 4094) = .serving ∧ (s openContent true).batch.state ≠ .waiting ∧
    (queued (batched .waiting [image 4 4094 0 0]) hq [first]).batch.state = .waiting ∧
    ((queued (batched .waiting [image 4 4094 0 0]) hq [first]).queue hq).entries = [] ++ first :: [] ∧
    (queued (batched .waiting [image 4 4094 0 0]) hq [first]).bank (bankOf first.cell.tag) = .serving ∧
    ((batched .waiting [image 4 4094 0 0]).queue hq).entries = [] ∧ fallsIn 3 (image 4 4094 0 0) = true ∧
    (∀ k : BankId, k < 3 → fallsIn k (image 4 4094 0 0) = false) ∧
    ((s openContent false).record 4094).good = false ∧ ((s openContent true).record 4094).good = true ∧
    ((s { openContent with state := .spent .pass } true).record 4094).content.state = .spent .pass ∧
    ((s openContent true).record 1).content.state = .vacant ∧
    ((s openContent true).record 4094).content.state = .opened .pass := by decide +kernel

/-- An add queue has no marked head whose bank is SERVING. -/
theorem no_deferred {s : State} (h : ∀ n : PortId, (s.queue (aq n)).entries.all (fun e => !e.marked) = true) (n : PortId)
    (e : Entry) (he : (s.queue (aq n)).entries.head? = some e) (hm : e.marked = true) :
    s.bank (bankOf e.cell.tag) ≠ .serving := by
  have := List.all_eq_true.1 (h n) e (List.mem_of_mem_head? he)
  rw [hm] at this; exact absurd this (by decide)

/-- The last position of the class 3 rotation, at the end of its search, where nothing else is a candidate. -/
theorem test_meets_ToutSendsTheChosenCell :
    let e := entry { dataCell 4094 1 with cls := 3 } false
    let s := { queued ready (aq 3) [e] with rotation := #v[0, 0, 0, 0] }
    let t := queued ready mqt [entry idleCell false]
    (∀ n : PortId, (s.queue (aq n)).entries.all (fun e => !e.marked) = true) ∧
    (∀ n : PortId, (t.queue (aq n)).entries.all (fun e => !e.marked) = true) ∧
    (∀ n : PortId, (ready.queue (aq n)).entries.all (fun e => !e.marked) = true) ∧ s.held = false ∧
    (t.queue mqt).entries = entry idleCell false :: [] ∧ (s.queue mqt).entries = [] ∧
    (s.queue (tq 3)).entries.head? = none ∧ (s.queue (aq 0)).entries.head? = none ∧
    (s.queue (aq 1)).entries.head? = none ∧ (s.queue (aq 2)).entries.head? = none ∧ s.rotation[(3 : ClassId)] = 0 ∧
    (s.queue (aq 3)).entries = e :: [] ∧ e.marked = false ∧ e.cell.cls = 3 ∧
    (∀ q : QueueId, (ready.queue q).entries = []) := by decide +kernel

theorem test_meets_DeferredChecksComeFirst :
    let e := { entry (dataCell 4094 1) true with source := .tributary 3 }
    let s (c : Content) (good : Bool) : State := withRecord (queued ready (aq 3) [e, entry (dataCell 0 1) false]) 4094 c good
    let mine := { openContent with source := some 3, quota := some 1, stamp := some 255 }
    (s mine true).held = false ∧ ((s mine true).queue (aq 3)).entries = e :: [entry (dataCell 0 1) false] ∧
    e.marked = true ∧ (s mine true).bank (bankOf e.cell.tag) = .serving ∧
    (∀ m : PortId, m < 3 → ((s mine true).queue (aq m)).entries = []) ∧
    ((s mine true).queue (aq 3)).entries.head? = some e ∧ ((s mine true).queue (aq 2)).entries.head? = none ∧
    (updating 3 .hold []).bank (bankOf e.cell.tag) ≠ .serving ∧
    ((s mine true).record 4094).good = true ∧ ((s mine true).record 4094).content.source = some 3 ∧
    ((s mine true).record 4094).content.state = .opened .pass ∧
    (ready.record 4094).content.state = .vacant ∧ ((s openContent true).record 4094).content.source ≠ some 3 ∧
    ((s { mine with state := .barred .pass } true).record 4094).content.state = .barred .pass ∧
    ((s mine false).record 4094).good = false := by decide +kernel

theorem test_meets_PortsFollowTheirSignal :
    let s (p : Port) := ready.setPort 3 p
    let starting := { ready with nodeState := .starting }
    ready.held = false ∧ (ready.port 3).state = .down ∧ ready.nodeState = .ready ∧ starting.nodeState ≠ .ready ∧
    ((s { Port.reset with state := .off }).port 3).state = .off ∧ ((s aligningPort).port 3).state = .aligning ∧
    ((s upPort).port 3).state = .up := by decide +kernel

theorem test_meets_PortReceiveChecks :
    let s := ready.setPort 3 { aligningPort with state := .down }
    let long := { dataCell 0 1 with len := 59 }
    let whole (c : Cell) : Prop := c.frame.length = 64 ∧ byteAt c.frame 5 = hcsOf (c.frame.take 5)
    s.held = false ∧ (s.port 3).state ≠ .off ∧ (s.port 3).signal = true ∧ (List.replicate 65 (0 : Byte)).length ≠ 64 ∧
    (idleCell.frame.set 5 0).length = 64 ∧ byteAt (idleCell.frame.set 5 0) 5 ≠ hcsOf ((idleCell.frame.set 5 0).take 5) ∧
    whole long ∧ 58 < (cellOfBytes long.frame).len.toNat ∧
    whole (dataCell 4095 1) ∧ (cellOfBytes (dataCell 4095 1).frame).tag = 4095 ∧
    (cellOfBytes (dataCell 4095 1).frame).kind = .data ∧
    whole { mgmtTo 0 0 0 1 with tag := 0 } ∧ (cellOfBytes { mgmtTo 0 0 0 1 with tag := 0 }.frame).kind = .mgmt ∧
    whole idleCell ∧ (cellOfBytes idleCell.frame).kind = .idle ∧ whole (linkCell 4 0) ∧ whole (linkCell 0 0) ∧
    (cellOfBytes (linkCell 4 0).frame).kind = .link ∧ (cellOfBytes (linkCell 4 0).frame).tag.toNat = 4 ∧
    (cellOfBytes (linkCell 0 0).frame).tag = 0 := by decide +kernel

theorem test_meets_AddCellsMeetTheAddCheck :
    let s (c : Content) (good : Bool) (k : Nat) : State :=
      withRecord (ready.setPort 3 { upPort with addCredits := k }) 4094 c good
    let mine := { openContent with source := some 3, quota := some 1, stamp := some 255 }
    arrivesAt (s mine true 0) 3 (dataCell 4094 0) = true ∧ arrivesAt (s mine true 1) 3 (dataCell 4094 0) = true ∧
    (dataCell 4094 0).kind = .data ∧ ((s mine true 0).port 3).state = .up ∧ ((s mine true 0).port 3).addCredits = 0 ∧
    0 < ((s mine true 1).port 3).addCredits ∧ (s mine true 1).bank (bankOf 4094) = .serving ∧
    ((s mine true 1).record 4094).good = true ∧ ((s mine true 1).record 4094).content.source = some 3 ∧
    ((s mine true 1).record 4094).content.state = .opened .pass ∧ ((s mine true 1).record 0).content.state = .vacant ∧
    ((s openContent true 1).record 4094).content.source ≠ some 3 ∧
    ((s openContent true 1).record 4094).content.state ≠ .vacant ∧ ((s mine false 1).record 4094).good = false ∧
    lawful (s mine true 1) = true := by
  decide +kernel

theorem test_meets_AddCellsMeetTheHoldPolicy :
    let s (p : HoldPolicy) := (updating 3 p []).setPort 3 { upPort with addCredits := 16 }
    arrivesAt (s .hold) 3 (dataCell 4094 0) = true ∧ ((s .hold).port 3).state = .up ∧
    0 < ((s .hold).port 3).addCredits ∧ (s .hold).bank (bankOf 4094) = .updating ∧
    (s .hold).batch.policy = some .hold ∧ (s .pass).batch.policy = some .pass ∧
    (s .discard).batch.policy = some .discard ∧ lawful (s .hold) = true ∧ lawful (s .pass) = true ∧
    lawful (s .discard) = true := by decide +kernel

theorem test_meets_PortManagementIsLocal :
    let low := { ready.setPort 0 upPort with agent := { ready.agent with lmgt := false } }
    arrivesAt (ready.setPort 3 aligningPort) 3 (dataCell 0 1) = true ∧
    arrivesAt (ready.setPort 3 aligningPort) 3 (mgmtTo 0 0 1 0) = true ∧
    ((ready.setPort 3 aligningPort).port 3).state ≠ .up ∧
    arrivesAt (ready.setPort 0 upPort) 0 (mgmtTo 0 0 1 0) = true ∧ (mgmtTo 0 0 1 0).kind = .mgmt ∧
    ((ready.setPort 0 upPort).port 0).state = .up ∧ (ready.setPort 0 upPort).agent.lmgt = true ∧
    arrivesAt (ready.setPort 1 upPort) 1 (mgmtTo 0 0 1 0) = true ∧ arrivesAt low 0 (mgmtTo 0 0 1 0) = true ∧
    low.agent.lmgt = false := by decide +kernel

theorem test_meets_AlignRestartsTheLink :
    let s (p : Port) := ready.setPort 3 p
    (s upPort).held = false ∧ ((s upPort).port 3).signal = true ∧ ((s upPort).port 3).state = .up ∧
    ((s aligningPort).port 3).signal = true ∧ ((s aligningPort).port 3).state = .aligning ∧
    ((s { upPort with state := .down }).port 3).state = .down ∧ portWellFormed (linkCell 1 0).frame = true ∧
    (cellOfBytes (linkCell 1 0).frame).kind = .link ∧ (cellOfBytes (linkCell 1 0).frame).tag = 1 := by decide +kernel

theorem test_meets_AlignAckMakesThePortUp :
    let s := ready.setPort 3 aligningPort
    s.held = false ∧ (s.port 3).signal = true ∧ (s.port 3).state = .aligning ∧ (255 : Byte) = (s.port 3).token ∧
    (0 : Byte) ≠ (s.port 3).token ∧ portWellFormed (linkCell 2 255).frame = true ∧
    (cellOfBytes (linkCell 2 255).frame).kind = .link ∧ (cellOfBytes (linkCell 2 255).frame).tag = 2 ∧
    (cellOfBytes (linkCell 2 255).frame).seq = 255 := by decide +kernel

theorem test_meets_CreditRaisesDropCredit :
    let s := ready.setPort 3 upPort
    s.held = false ∧ (s.port 3).signal = true ∧ (s.port 3).state = .up ∧ 1 ≤ (253 : Byte).toNat ∧
    (s.port 3).dropCredit + (253 : Byte).toNat ≤ 255 ∧ 255 < (s.port 3).dropCredit + (254 : Byte).toNat ∧
    ((ready.setPort 3 aligningPort).port 3).state ≠ .up ∧ ((ready.setPort 3 aligningPort).port 3).state ≠ .off ∧
    portWellFormed (linkCell 3 255).frame = true ∧ (cellOfBytes (linkCell 3 255).frame).kind = .link ∧
    (cellOfBytes (linkCell 3 255).frame).tag = 3 ∧ (cellOfBytes (linkCell 3 255).frame).seq = 255 := by decide +kernel

theorem test_meets_PortSendsInOrder :
    let e := entry idleCell false
    let s (k : Nat) := ready.setPort 0 { upPort with addCredits := k, dropCredit := 1 }
    (ready.setPort 0 aligningPort).held = false ∧ ((ready.setPort 0 aligningPort).port 0).alignPending = true ∧
    ((s 15).port 0).alignPending = false ∧ ((s 15).port 0).state = .up ∧
    0 < min 255 (((s 15).queue (aq 0)).floor - ((s 15).queue (aq 0)).entries.length - ((s 15).port 0).addCredits) ∧
    ¬0 < min 255 (((s 16).queue (aq 0)).floor - ((s 16).queue (aq 0)).entries.length - ((s 16).port 0).addCredits) ∧
    0 < ((s 16).port 0).dropCredit ∧ (s 16).agent.lmgt = true ∧ ((queued (s 16) mql [e]).queue mql).entries = e :: [] ∧
    ((queued (s 16) (dq 0) [e]).queue mql).entries = [] ∧ ((queued (s 16) (dq 0) [e]).queue (dq 0)).entries = e :: [] ∧
    ((s 16).queue (dq 0)).entries = [] ∧ ((s 16).queue mql).entries = [] := by decide +kernel

theorem test_meets_PortTimersExpire :
    ready.held = false ∧ ((ready.setPort 3 aligningPort).port 3).state = .aligning ∧
    ((ready.setPort 3 aligningPort).port 3).resendTimer = true ∧
    ((ready.setPort 3 aligningPort).port 3).stallTimer = true ∧ ((ready.setPort 3 upPort).port 3).state = .up ∧
    ((ready.setPort 3 upPort).port 3).silenceTimer = true ∧ ((ready.setPort 3 upPort).port 3).signal = true ∧
    ready.nodeState = .ready ∧ ({ upPort with signal := false } : Port).signal = false := by decide +kernel

/-! #### Requests -/

theorem test_meets_RequestsAreTurnedAway :
    let bare := { leased with agent := { ready.agent with address := none } }
    let short := { request 0x10 [0] with cell := { (request 0x10 [0]).cell with len := 8 } }
    (∀ p ∈ requestCommands, (holding leased (request p.2 [])).verdict (request p.2 []) = .execute ∧
      (request p.2 []).cell.code = p.2) ∧
    (holding leased short).verdict short = .execute ∧ short.cell.len.toNat < 8 + short.cell.bodyLen ∧
    ¬((request 0x10 []).cell.len.toNat < 8 + (request 0x10 []).cell.bodyLen) ∧ (request 0x10 []).cell.bodyLen ≤ 50 ∧
    bare.agent.address = none ∧ (request 0x10 []).origin ≠ .localMgr ∧ (holding bare (request 0x10 [])).held = false ∧
    ready.lease.holder ≠ some (request 0x10 []).origin ∧ ready.agent.address ≠ none ∧
    (∀ p ∈ requestCommands, p.2 ≠ (request 0x40 []).cell.code) ∧
    (holding ready (request 0x40 [])).verdict (request 0x40 []) = .execute := by decide +kernel

theorem test_meets_NodeQueryReadsTheNode :
    asks ready 0x01 [0] = true ∧ asks ready 0x01 [] = true ∧ asks leased 0x01 [] = true ∧ ready.lease = .free ∧
    leased.lease = .held (.trunk 5) 10 := by decide +kernel

theorem test_meets_CountersQueuesAndPortsAreRead :
    asks ready 0x02 [] = true ∧ asks ready 0x02 [8, 0] = true ∧ asks ready 0x02 [7, 25] = true ∧
    asks ready 0x02 [7, 24] = true ∧ asks ready 0x02 [2, 11] = true ∧ (ready.port 3).ctr.list.length = 25 ∧
    asks ready 0x05 [] = true ∧ asks ready 0x05 [15] = true ∧ asks ready 0x05 [14] = true ∧ asks ready 0x06 [] = true ∧
    asks ready 0x06 [4] = true ∧ asks ready 0x06 [3] = true := by decide +kernel

theorem test_meets_TheTableIsRead :
    let busy := updating 3 .hold []
    asks ready 0x03 [] = true ∧ asks ready 0x03 [0x0F, 0xFF] = true ∧ asks ready 0x03 [0x0F, 0xFE] = true ∧
    asks busy 0x03 [0x0C, 0x00] = true ∧ busy.bank (Fin.ofNat 4 (3072 / 1024)) = .updating ∧
    asks ready 0x04 [] = true ∧ asks ready 0x04 [0x10, 0x00] = true ∧ asks ready 0x04 [0x0F, 0xFE] = true ∧
    asks busy 0x04 [0x0C, 0x00] = true := by decide +kernel

theorem test_meets_NodeSetChangesTheSettings :
    let s := noticing leased { Notices.reset with queue := [awaitingNotice] }
    asks leased 0x10 [] = true ∧ asks leased 0x10 [0x01, 2, 0, 0, 0, 0, 0] = true ∧
    asks leased 0x10 [0x08, 0, 0, 0, 0x03, 0xE9, 0] = true ∧ asks leased 0x10 [0x1B, 1, 15, 0, 0x03, 0xE8, 255] = true ∧
    asks leased 0x10 [0x04, 0, 0, 255, 0, 0, 0] = true ∧ asks s 0x10 [0x04, 0, 0, 253, 0, 0, 0] = true ∧
    s.notices.queue.head? = some awaitingNotice ∧ awaitingNotice.awaiting = true ∧
    asks { leased with notices := { Notices.reset with queue := [{ awaitingNotice with awaiting := false }] } } 0x10
      [0x04, 0, 0, 254, 0, 0, 0] = true ∧
    asks leased 0x10 [0x04, 0, 0, 254, 0, 0, 0] = true ∧ leased.notices.queue = [] := by decide +kernel

theorem test_meets_QueuesAreSetAndFlushed :
    let c := entry (dataCell 0 1) false
    let two := queued leased (dq 0) [c, c]
    let credited := leased.setPort 3 { upPort with addCredits := 16 }
    asks leased 0x11 [] = true ∧ asks leased 0x11 [15, 0, 0, 0, 1] = true ∧ asks leased 0x11 [13, 0, 1, 0, 1] = true ∧
    asks two 0x11 [4, 0, 0, 0, 1] = true ∧ (two.queue (dq 0)).entries.length = 2 ∧
    asks leased 0x11 [0, 0x01, 0x3D, 0x02, 0x00] = true ∧ asks leased 0x11 [0, 0x01, 0x3C, 0x02, 0x00] = true ∧
    asks credited 0x11 [11, 0, 15, 0, 0] = true ∧ asks credited 0x11 [11, 0, 16, 0, 0] = true ∧
    asks leased 0x12 [] = true ∧ asks leased 0x12 [15] = true ∧ asks leased 0x12 [14] = true ∧
    asks leased 0x12 [13] = true ∧ leased.notices.unreachable = false ∧
    asks (queued (batched .waiting []) hq [c]) 0x12 [12] = true ∧ lawful leased = true ∧
    lawful (queued (batched .waiting []) hq [c]) = true := by decide +kernel

theorem test_meets_PortsCountersAndAddressAreSet :
    let s (p : Port) := leased.setPort 3 p
    let off := { Port.reset with state := .off }
    let bare := { ready with agent := { ready.agent with address := none } }
    asks leased 0x13 [] = true ∧ asks leased 0x13 [4, 0] = true ∧ asks leased 0x13 [3, 2] = true ∧
    asks (s off) 0x13 [3, 0] = true ∧ ((s off).port 3).state = .off ∧ asks (s upPort) 0x13 [3, 0] = true ∧
    ((s upPort).port 3).state ≠ .off ∧ asks (s aligningPort) 0x13 [3, 1] = true ∧ asks (s off) 0x13 [3, 1] = true ∧
    ((s off).port 3).signal = false ∧ ((s { off with signal := true }).port 3).signal = true ∧
    asks leased 0x14 [0] = true ∧ asks leased 0x14 [] = true ∧ leased.admits mqt = true ∧
    leased.notices.unreachable = false ∧ asks leased 0x16 [] = true ∧
    asks leased 0x16 [254, 0, 0, 0, 0] = true ∧ asks leased 0x16 [253, 0, 0, 0, 0] = true ∧
    asks bare 0x16 [253, 0x00, 0xA3, 0x1F, 0x02] = true ∧ asks leased 0x16 [0, 0x00, 0xA3, 0x1F, 0x02] = true ∧
    0x00#8 ++ 0xA3#8 ++ 0x1F#8 ++ 0x02#8 = leased.agent.unitNumber := by decide +kernel

theorem test_meets_NodeResetResetsTheNode :
    asks leased 0x15 [0] = true ∧ asks leased 0x15 [] = true ∧ leased.handed = [] ∧ leased.batch.state ≠ .applying ∧
    leased.agent.settings.destination = none ∧
    asks (updating 3 .hold []) 0x15 [] = true ∧ (updating 3 .hold []).batch.state = .applying ∧
    (∀ k, (updating 3 .hold []).bank k = .updating ↔ k = 3) ∧ 2 ≤ (leased.queue mqt).floor ∧
    2 ≤ (leased.queue mql).floor := by decide +kernel

theorem test_meets_BatchesAreOpenedAndStaged :
    let write := image 1 4094 0x20 0
    let bad := image 1 4095 0x20 0
    let s (k : Nat) := batched .opened (List.replicate k write)
    asks leased 0x20 [] = true ∧ asks leased 0x20 [0, 2] = true ∧ asks leased 0x20 [255, 3] = true ∧
    asks leased 0x20 [255, 2] = true ∧ leased.batch.state = .none ∧ asks (s 0) 0x20 [1, 0] = true ∧
    asks (batched .waiting []) 0x20 [1, 0] = true ∧
    asks (s 0) 0x21 [17] = true ∧ asks leased 0x21 (17 :: [write].flatten) = true ∧ write.length = 12 ∧ bad.length = 12 ∧
    (s 0).batch.state = .opened ∧ (s 0).batch.id = 17 ∧ asks (s 0) 0x21 (18 :: [write].flatten) = true ∧
    asks (s 0) 0x21 (17 :: [write, write, write, bad].flatten) = true ∧ editOf bad = none ∧ editOf write ≠ none ∧
    asks (s 61) 0x21 (17 :: [write, write, write, write].flatten) = true ∧ (s 61).batch.staging.length = 61 ∧
    asks (s 60) 0x21 (17 :: [write, write, write, write].flatten) = true := by decide +kernel

theorem test_meets_BatchesAreCommittedAndAborted :
    let bar := image 4 4094 0 0
    let s := batched .opened [bar]
    let d := bytes16 (digestOf [bar])
    let commit := [17, 1, byteAt d 0, byteAt d 1]
    asks s 0x22 [] = true ∧ asks (batched .applying []) 0x22 [1, 0, 0, 0] = true ∧ asks leased 0x22 [1, 0, 0, 0] = true ∧
    asks s 0x22 [18, 1, 0, 0] = true ∧ asks s 0x22 [17, 2, 0, 0] = true ∧ asks s 0x22 [17, 1, 0, 0] = true ∧
    byteAt d 0 ++ byteAt d 1 = digestOf s.batch.staging ∧ (0#8 ++ 0#8) ≠ digestOf s.batch.staging ∧
    asks (queued s hq [entry (dataCell 0 1) false]) 0x22 commit = true ∧ asks s 0x22 commit = true ∧
    (s.queue hq).entries = [] ∧ fallsIn 3 bar = true ∧ fallsIn 0 bar = false ∧
    asks (batched .opened []) 0x22 [17, 0, 0xFF, 0xFF] = true ∧ (batched .opened []).lease = .held (.trunk 5) 10 ∧
    asks s 0x23 [] = true ∧ asks leased 0x23 [17] = true ∧ asks s 0x23 [0] = true ∧ asks s 0x23 [17] = true ∧
    asks (batched .applying []) 0x23 [17] = true ∧ asks (batched .waiting [bar]) 0x23 [17] = true ∧
    (batched .waiting [bar]).batch.commit = some (.trunk 5, 7) ∧
    asks { batched .waiting [bar] with lease := .overdue (.trunk 5) } 0x23 [17] = true := by decide +kernel

/-- R66: the answer MALFORMED of a BATCH-ABORT carries the batch id and the batch state too. -/
theorem test_malformed_abort_carries_the_batch :
    let s := batched .opened []
    (match exec .batchAbort (holding s (request 0x23 [])) with
      | .next t => decide ((t.queue mqt).entries.map Entry.cell = [s.response (.trunk 5) 7 0x23 .malformed [17, 1]])
      | _ => false) = true := by decide +kernel

/-- R66, R173: the abort of a WAITING batch under an OVERDUE lease frees the lease and reports it EXPIRED. -/
theorem test_abort_under_an_overdue_lease :
    let s := { batched .waiting [] with lease := .overdue (.trunk 5) }
    (match exec .batchAbort (holding s (request 0x23 [17])) with
      | .next t => decide (t.lease = .free ∧
          t.handed.map (fun h => (h.report.type, h.report.subject, h.report.detail)) = [(.leaseLost, 5, .code 1)])
      | _ => false) = true := by decide +kernel

theorem test_meets_TheLeaseIsTakenRenewedAndGiven :
    let s (l : Lease) : State := { ready with lease := l }
    let other := s (.held .localMgr 1)
    asks ready 0x30 [] = true ∧ asks ready 0x30 [2] = true ∧ asks ready 0x30 [1] = true ∧ ready.lease.holder = none ∧
    asks leased 0x30 [0] = true ∧ leased.lease.holder = some (request 0x30 [0]).origin ∧ asks other 0x30 [0] = true ∧
    other.lease.holder = some .localMgr ∧ asks (s (.overdue .localMgr)) 0x30 [0] = true ∧ asks other 0x30 [1] = true ∧
    asks { other with batch := { other.batch with state := .waiting } } 0x30 [1] = true ∧
    asks { other with batch := { other.batch with state := .opened } } 0x30 [1] = true ∧
    asks leased 0x31 [0] = true ∧ asks leased 0x31 [] = true ∧ asks ready 0x31 [] = true ∧
    asks leased 0x32 [0] = true ∧ asks ready 0x32 [] = true ∧ asks (batched .waiting []) 0x32 [] = true ∧
    asks (batched .opened []) 0x32 [] = true ∧ asks leased 0x32 [] = true := by decide +kernel

theorem test_meets_LeaseExpiryFollowsTheBatch :
    leased.held = false ∧ leased.lease = .held (.trunk 5) 10 ∧ leased.batch.state = .none ∧
    (batched .opened []).lease = .held (.trunk 5) 10 ∧ (batched .opened []).batch.state = .opened ∧
    (batched .waiting []).batch.state = .waiting ∧ (batched .applying []).batch.state = .applying := by decide +kernel

/-! #### Notices and the apply -/

theorem test_meets_NoticesAreSentAsCells :
    let unsent := { awaitingNotice with awaiting := false }
    let s := noticing ready { Notices.reset with queue := [unsent] }
    s.agent.settings.destination = some (.trunk 5) ∧ s.notices.queue = unsent :: [] ∧ unsent.awaiting = false ∧
    s.notices.unreachable = false ∧ ready.agent.settings.destination = none ∧
    (noticing ready { Notices.reset with queue := [awaitingNotice] }).notices.queue.head? = some awaitingNotice := by
  decide +kernel

theorem test_meets_ReportsAreTaken :
    let r : Report := { type := .linkChange, subject := 3, detail := .code 1 }
    let e (k : BitVec 16) : NoticeEntry :=
      { number := k, type := .linkChange, subject := k, detail := .none, repeats := 255, awaiting := false }
    let s (q : List NoticeEntry) : State :=
      { ready with
        handed := [{ block := .steering, report := r }, { block := .port 3, report := r }]
        notices := { Notices.reset with queue := q } }
    (s []).handed = [{ block := .steering, report := r }] ++ { block := .port 3, report := r } :: [] ∧
    (∀ h ∈ [({ block := .steering, report := r } : Handed)], h.block ≠ .port 3) ∧
    (s [e 1, e 3, e 4]).notices.queue = [e 1] ++ e 3 :: [e 4] ∧ (e 3).subject = r.subject ∧
    (∀ x ∈ [e 1] ++ [e 4], x.subject ≠ r.subject) ∧
    (s (List.replicate 15 (e 1))).notices.queue.length < 16 ∧ 16 ≤ (s (List.replicate 16 (e 1))).notices.queue.length ∧
    (∀ x ∈ List.replicate 16 (e 1), x.subject ≠ r.subject) := by decide +kernel

theorem test_meets_NoticesAreAcknowledged :
    let m := request 0x41 []
    let lostOnes : NoticeEntry :=
      { number := 8, type := .noticesLost, subject := 0, detail := .count 65535, repeats := 255, awaiting := false }
    let s (q : List NoticeEntry) (lost retry : Nat) (u : Bool) : State :=
      noticing ready { Notices.reset with queue := q, lost := lost, retry := retry, ackTimer := some 100, unreachable := u }
    ready.held = false ∧ (holding ready m).agent.hands = [m] ∧ m.cell.flagged = false ∧ m.cell.sourceByte.toNat ≤ 253 ∧
    m.cell.code = 0x41 ∧ ready.notices.queue = [] ∧
    (s [awaitingNotice] 0 0 false).notices.queue = awaitingNotice :: [] ∧
    (s [awaitingNotice] 0 0 false).agent.settings.destination = some m.origin ∧ awaitingNotice.number = m.cell.reqSeq ∧
    awaitingNotice.awaiting = true ∧ 0 < (s [awaitingNotice] 65535 0 false).notices.lost ∧
    (s [awaitingNotice, lostOnes] 1 0 false).notices.queue.tail = [] ++ lostOnes :: [] ∧
    lostOnes.detail = .count 65535 ∧
    (s [awaitingNotice] 0 3 false).notices.retry ≤ 3 ∧ (s [awaitingNotice] 0 3 false).notices.ackTimer ≠ none ∧
    4 ≤ (s [awaitingNotice] 0 4 false).notices.retry ∧ (s [awaitingNotice] 0 4 true).notices.unreachable = true ∧
    Origin.localMgr ≠ .trunk 5 := by decide +kernel

theorem test_meets_EditsAreTakenInListOrder :
    let list := [image 4 0 0 0, image 6 3 0 0, image 4 4094 0 0]
    let s := updating 3 .hold list
    s.held = false ∧ s.batch.state = .applying ∧ (∀ k, s.bank k = .updating ↔ k = 3) ∧
    s.batch.staging[1]? = some (image 6 3 0 0) ∧ editOf (image 6 3 0 0) = some (.clearBank 3) ∧
    (∀ x ∈ s.batch.outcomes, x.position ≠ 1) ∧ fallsIn 3 (image 4 0 0 0) = false ∧
    s.nextEdit = some (1, .clearBank 3) ∧ tableWf s.table = true := by decide +kernel

theorem test_meets_EditsDoTheirOps :
    let s (i : Image) (c : Content) (good : Bool) : State := withRecord (updating 3 .hold [i]) 4094 c good
    let quota := { openContent with quota := some 0, state := .spent .pass }
    (s (image 1 4094 0x20 0) openContent true).nextEdit = some (0, .write 4094 { Content.cleared with state := .opened .pass }) ∧
    (s (image 2 4094 0 0) openContent true).nextEdit = some (0, .clear 4094) ∧
    (s (image 3 4094 0 1) openContent true).nextEdit = some (0, .refill 4094 1) ∧
    (s (image 4 4094 0 0) openContent true).nextEdit = some (0, .bar 4094) ∧
    (s (image 5 4094 0 0) openContent true).nextEdit = some (0, .unbar 4094) ∧
    ((s (image 3 4094 0 1) openContent false).record 4094).good = false ∧
    ((s (image 3 4094 0 1) openContent true).record 4094).content.quota = none ∧
    ((s (image 3 4094 0 1) quota true).record 4094).content.quota = some 0 ∧
    ((s (image 3 4094 0 1) quota true).record 4094).content.state = .spent .pass ∧
    ((s (image 4 4094 0 0) openContent true).record 4094).content.state = .opened .pass ∧
    ((s (image 5 4094 0 0) { quota with state := .barred .sink } true).record 4094).content.state = .barred .sink ∧
    ((s (image 5 4094 0 0) { quota with state := .faulted none } true).record 4094).content.state = .faulted none := by
  decide +kernel

theorem test_meets_AppliesGoBankByBank :
    let list := [image 4 4094 0 0, image 4 0 0 0]
    let s := updating 0 .hold list
    let t := updating 3 .hold [image 4 4094 0 0]
    let done (x : State) (p : Nat) : State :=
      { x with batch := { x.batch with outcomes := [{ position := p, tag := 0, result := .applied }] } }
    (batched .waiting list).held = false ∧ (batched .waiting list).batch.state = .waiting ∧
    ((batched .waiting list).queue hq).entries = [] ∧ fallsIn 0 (image 4 0 0 0) = true ∧
    (batched .waiting []).batch.staging = [] ∧ (batched .waiting []).batch.commit = some (.trunk 5, 7) ∧
    ready.batch.state ≠ .waiting ∧
    s.batch.state = .applying ∧ (∀ k, s.bank k = .updating ↔ k = 0) ∧ (done s 1).nextEdit = none ∧
    fallsIn 3 (image 4 4094 0 0) = true ∧ s.batch.abortPending = false ∧
    (∀ k, t.bank k = .updating ↔ k = 3) ∧ (done t 0).nextEdit = none ∧ t.batch.commit = some (.trunk 5, 7) ∧
    (8 : Byte).toNat < 16 := by decide +kernel

end Sys2Proof.Tests
end

section
namespace Sys2Proof.Machine

/-! ## Frames: what the laws of the banks and of the records look at

Most operations of the device touch neither the banks nor the records. The relations of this part say so once for each
operation; the step lemmas of the two laws then only look at the operations that do. -/

/-- All that the law of the banks looks at: the reset, the node state, the banks, the start-up clear and the batch state. -/
def State.bankView (s : State) : Bool × NodeState × Vector BankState 4 × Nat × BatchState :=
  (s.held, s.nodeState, s.banks, s.clearNext, s.batch.state)

/-- A queue from which a cell can still be looked up: the Hold Queue, or an add queue (R36, R39). -/
def looked (q : QueueId) : Prop := q = hq ∨ ∃ n, q = aq n

/-- No record is written, and no cell is placed where it can still be looked up. -/
structure Unwritten (s t : State) : Prop where
  table : t.table = s.table
  entries : ∀ q, looked q → (t.queue q).entries ⊆ (s.queue q).entries

/-- Neither the banks nor the records are touched. -/
structure Quiet (s t : State) : Prop extends Unwritten s t where
  banks : t.bankView = s.bankView

/-- Every state that an outcome goes on to satisfies `P`. -/
def Leaves (o : Host.Outcome State Fault Refusal) (P : State → Prop) : Prop := ∀ t, o = .next t → P t

@[simp] theorem leaves_next {s : State} {P : State → Prop} : Leaves (.next s) P ↔ P s :=
  ⟨fun h => h s rfl, fun h t ht => by cases ht; exact h⟩

theorem Leaves.mono {o : Host.Outcome State Fault Refusal} {P Q : State → Prop} (h : Leaves o P) (hPQ : ∀ t, P t → Q t) :
    Leaves o Q := fun t ht => hPQ t (h t ht)

/-- A law that every command keeps, and that does not look at the commands that wait, is kept by every step. -/
theorem step_keeps {P : State → Prop} (hexec : ∀ i s, P s → Leaves (exec i s) P)
    (hpending : ∀ s rest, P s → P { s with pending := rest }) {s t : State} (hs : P s) (h : step s = .next t) : P t := by
  unfold step at h
  split at h
  · cases h; exact hs
  · exact hexec _ _ (hpending s _ hs) t h

/-! ### The frames are preorders -/

theorem Unwritten.of_eq {s t : State} (ht : t.table = s.table) (hq : t.queues = s.queues) :
    Unwritten s t :=
  ⟨ht, fun q _ => by rw [State.queue_of_queues hq]; exact List.Subset.refl _⟩

theorem Quiet.of_eq {s t : State} (hb : t.bankView = s.bankView) (ht : t.table = s.table)
    (hq : t.queues = s.queues) : Quiet s t := ⟨.of_eq ht hq, hb⟩

theorem Quiet.refl (s : State) : Quiet s s :=
  .of_eq rfl rfl rfl

theorem Unwritten.trans {s t u : State} (h : Unwritten s t) (k : Unwritten t u) : Unwritten s u :=
  ⟨k.table.trans h.table, fun q hq => List.Subset.trans (k.entries q hq) (h.entries q hq)⟩

/-- An operation that writes no record, made after changes to items that the law of the records does not look at. -/
theorem Unwritten.after {s t u : State} (k : Unwritten t u) (ht : t.table = s.table) (hq : t.queues = s.queues) :
    Unwritten s u := (Unwritten.of_eq ht hq).trans k

theorem Quiet.trans {s t u : State} (h : Quiet s t) (k : Quiet t u) : Quiet s u :=
  ⟨h.toUnwritten.trans k.toUnwritten, k.banks.trans h.banks⟩

/-- A quiet operation made after changes to items that the laws do not look at. -/
theorem Quiet.after {s t u : State} (k : Quiet t u) (hb : t.bankView = s.bankView) (ht : t.table = s.table)
    (hq : t.queues = s.queues) : Quiet s u := (Quiet.of_eq hb ht hq).trans k

theorem Quiet.foldl {α : Type} {f : State → α → State} (h : ∀ s a, Quiet s (f s a)) (l : List α) (s : State) :
    Quiet s (l.foldl f s) := by
  induction l generalizing s with
  | nil => exact .refl s
  | cons a rest ih => exact (h s a).trans (ih _)

/-! ### Queues -/

theorem not_looked_tq (c : ClassId) : ¬looked (tq c) := by
  rintro (h | ⟨n, h⟩) <;> simp [tq, hq, aq, Fin.ext_iff] at h <;> omega

theorem not_looked_dq (n : PortId) : ¬looked (dq n) := by
  rintro (h | ⟨m, h⟩) <;> simp [dq, hq, aq, Fin.ext_iff] at h <;> omega

theorem not_looked_mgmtQueue (o : Origin) : ¬looked (mgmtQueue o) := by
  rintro (h | ⟨m, h⟩) <;> cases o <;> simp [mgmtQueue, mqt, mql, hq, aq, Fin.ext_iff] at h <;> omega

/-- A queue that keeps entries of its own alone places none where it can be looked up. -/
theorem Quiet.setQueue (s : State) (q : QueueId) (x : Queue) (h : x.entries ⊆ (s.queue q).entries) :
    Quiet s (s.setQueue q x) where
  table := rfl
  banks := rfl
  entries k _ := by
    rw [s.queue_setQueue]
    split
    · subst_vars; exact h
    · exact List.Subset.refl _

theorem Quiet.setQueue_unlooked (s : State) {q : QueueId} (x : Queue) (h : ¬looked q) : Quiet s (s.setQueue q x) where
  table := rfl
  banks := rfl
  entries k hk := by
    have hne : k ≠ q := fun e => h (e ▸ hk)
    rw [s.queue_setQueue_other x hne]
    exact List.Subset.refl _

theorem Quiet.claim (s : State) {q : QueueId} (e : Entry) (h : ¬looked q) : Quiet s (s.claim q e).1 := by
  rcases s.claim_cases q e with ⟨-, hc⟩ | ⟨-, hc⟩ <;> rw [hc] <;> exact .setQueue_unlooked s _ h

theorem Quiet.offer (s : State) {q : QueueId} (c : Cell) (x : Source) (h : ¬looked q) : Quiet s (s.offer q c x) :=
  .claim s _ h

theorem Quiet.dropHead (s : State) (q : QueueId) : Quiet s (s.dropHead q) :=
  .setQueue s q _ (List.tail_subset _)

theorem Quiet.flush (s : State) (q : QueueId) : Quiet s (s.flush q) :=
  .setQueue s q _ (List.nil_subset _)

/-! ### The Agent and the Notice Unit -/

/-- What the frame of every request leaves alone includes the banks and the records. -/
theorem RequestFrame.quiet {s t : State} (h : RequestFrame s t) : Quiet s t where
  table := h.table
  banks := by simp only [State.bankView, h.held, h.nodeState, h.banks, h.clearNext, h.batch]
  entries q hq := by
    have hne : ∀ o, q ≠ mgmtQueue o := fun o e => not_looked_mgmtQueue o (e ▸ hq)
    rw [h.queues q (hne (.trunk 0)) (hne .localMgr)]
    exact List.Subset.refl _

theorem Quiet.giveAgent (s : State) (m : HandCell) : Quiet s (s.giveAgent m) := (settleHands_frame _ s).1.quiet

theorem Quiet.settleHands (hs : List HandCell) (s : State) : Quiet s (settleHands hs s) := (settleHands_frame hs s).1.quiet

theorem Quiet.entered (s : State) (m : HandCell) (rest : List HandCell) : Quiet s (s.entered m rest) :=
  (s.entered_sameBlocks m rest).frame.quiet

theorem Quiet.respond (s : State) (r : Request) (st : Status) (body : List Byte) : Quiet s (s.respond r st body) :=
  ((RequestFrame.onEntry _ _ _).trans (RequestFrame.offerResponse _ _ _)).quiet

theorem Quiet.follow (s : State) (leased : Bool) (o : Origin) : Quiet s (s.follow leased o) := (s.follow_frame leased o).1.quiet

theorem Quiet.resendNotice (s : State) (o : Origin) (e : NoticeEntry) (k : Nat) : Quiet s (s.resendNotice o e k) :=
  (s.resendNotice_frame o e k).1.quiet

theorem Quiet.sendOldest (s : State) : Quiet s s.sendOldest := by
  unfold State.sendOldest
  split
  · split
    · exact .refl s
    · rename_i o e _ _ _ _
      have hoffer := (s.offerNotice_frame o e).1.quiet
      generalize s.offerNotice o e = t at hoffer
      exact hoffer.trans (.of_eq rfl rfl rfl)
  · exact .refl s

theorem Quiet.takeReport (s : State) (r : Report) : Quiet s (s.takeReport r) := by
  unfold State.takeReport
  dsimp only
  split
  · exact .of_eq rfl rfl rfl
  · split
    · exact Quiet.after (.sendOldest _) rfl rfl rfl
    · exact .of_eq rfl rfl rfl

theorem Quiet.accountLost (s : State) : Quiet s s.accountLost := by
  unfold State.accountLost
  split
  · exact .refl s
  · split <;> exact .of_eq rfl rfl rfl

theorem Quiet.takeAck (s : State) (o : Origin) (number : BitVec 16) : Quiet s (s.takeAck o number) := by
  unfold State.takeAck
  dsimp only
  split
  · split
    · exact Quiet.after ((Quiet.accountLost _).trans (.sendOldest _)) rfl rfl rfl
    · exact .of_eq rfl rfl rfl
  · exact .of_eq rfl rfl rfl

theorem Quiet.destinationSelected (s : State) : Quiet s s.destinationSelected := by
  unfold State.destinationSelected
  dsimp only
  split
  · exact .of_eq rfl rfl rfl
  · split
    · exact Quiet.after (.resendNotice _ _ _ _) rfl rfl rfl
    · exact Quiet.after (.sendOldest _) rfl rfl rfl

theorem Quiet.takeResetReports (s : State) : Quiet s s.takeResetReports :=
  Quiet.after (.foldl (fun _ _ => .takeReport _ _) _ _) rfl rfl rfl

theorem Quiet.concluded (s : State) (leased : Bool) (r : Request) (reply : Reply) :
    Quiet s (s.concluded leased r reply) := by
  cases reply with
  | answer st body => exact (Quiet.respond s r st body).trans (.follow _ _ _)
  | accepted => exact .follow _ _ _
  | reset body => exact ((Quiet.respond s r .ok body).trans (.follow _ _ _)).trans (.takeResetReports _)

/-! ### The ports -/

theorem Quiet.onPort (s : State) (n : PortId) (f : Port → Port) : Quiet s (s.onPort n f) :=
  .of_eq rfl rfl rfl

theorem Quiet.countPort (s : State) (n : PortId) (f : PortCounters → PortCounters) : Quiet s (s.countPort n f) :=
  .of_eq rfl rfl rfl

theorem Quiet.movePort (s : State) (n : PortId) (x : PortState) : Quiet s (s.movePort n x) :=
  .of_eq rfl rfl rfl

theorem Quiet.enterAligning (s : State) (n : PortId) : Quiet s (s.enterAligning n) :=
  .of_eq rfl rfl rfl

theorem Quiet.tryAlign (s : State) (n : PortId) : Quiet s (s.tryAlign n) := by
  unfold State.tryAlign
  split
  · exact .enterAligning s n
  · exact .refl s

theorem Quiet.leaveUp (s : State) (n : PortId) : Quiet s (s.leaveUp n) := by
  unfold State.leaveUp
  dsimp only
  split
  · exact (((Quiet.onPort s n _).trans (.flush _ (dq n))).trans (.flush _ mql)).trans (.countPort _ n _)
  · exact ((Quiet.onPort s n _).trans (.flush _ (dq n))).trans (.countPort _ n _)

theorem Quiet.leaveFor (s : State) (n : PortId) (x : PortState) : Quiet s (s.leaveFor n x) := by
  unfold State.leaveFor
  split
  · exact (Quiet.leaveUp s n).trans (.movePort _ n x)
  · exact .of_eq rfl rfl rfl
  all_goals
    split
    · exact .refl s
    · exact .of_eq rfl rfl rfl

theorem Quiet.onAlign (s : State) (n : PortId) : Quiet s (s.onAlign n) := by
  unfold State.onAlign
  split
  · exact ((Quiet.leaveUp s n).trans (.countPort _ n _)).trans (.enterAligning _ n)
  all_goals exact .of_eq rfl rfl rfl

theorem Quiet.onAlignAck (s : State) (n : PortId) (token : Byte) : Quiet s (s.onAlignAck n token) := by
  unfold State.onAlignAck
  split <;> exact .of_eq rfl rfl rfl

theorem Quiet.onCredit (s : State) (n : PortId) (amount : Byte) : Quiet s (s.onCredit n amount) := by
  unfold State.onCredit
  split
  · split
    · exact .of_eq rfl rfl rfl
    · split <;> exact .of_eq rfl rfl rfl
  · exact .of_eq rfl rfl rfl

theorem Quiet.onLink (s : State) (n : PortId) (c : Cell) : Quiet s (s.onLink n c) := by
  unfold State.onLink
  split
  · exact .onAlign s n
  · split
    · exact .onAlignAck s n _
    · split
      · exact .onCredit s n _
      · exact .of_eq rfl rfl rfl

theorem Quiet.onPortMgmt (s : State) (n : PortId) (c : Cell) : Quiet s (s.onPortMgmt n c) := by
  unfold State.onPortMgmt
  split
  · exact Quiet.after (.giveAgent _ _) rfl rfl rfl
  · exact .of_eq rfl rfl rfl

theorem Quiet.sendHead (s : State) (n : PortId) (q : QueueId) (e : Entry) : Quiet s (s.sendHead n q e) :=
  (Quiet.dropHead s q).trans (.of_eq rfl rfl rfl)

theorem Quiet.portOpportunity (s : State) (n : PortId) : Quiet s (s.portOpportunity n) := by
  unfold State.portOpportunity
  dsimp only
  split
  · exact .of_eq rfl rfl rfl
  · split
    · exact .of_eq rfl rfl rfl
    · split
      · exact .sendHead s n _ _
      · split
        · exact .sendHead s n _ _
        · exact .of_eq rfl rfl rfl

theorem Quiet.resetPort (s : State) (n : PortId) : Quiet s (s.resetPort n) := by
  have hleave : Quiet s (if (s.port n).state = .off then s else s.leaveFor n .down) := by
    split
    · exact .refl s
    · exact .leaveFor s n _
  exact (hleave.trans (.onPort _ n _)).trans (.tryAlign _ n)

/-! ### The trunk -/

theorem Quiet.sendOn (s : State) (c : Cell) : Quiet s (s.sendOn c) := by
  unfold State.sendOn
  split
  · exact .of_eq rfl rfl rfl
  · exact .offer s _ _ (not_looked_tq _)

theorem Quiet.unknownTag (s : State) (c : Cell) : Quiet s (s.unknownTag c) := by
  unfold State.unknownTag
  split
  · split
    · exact .of_eq rfl rfl rfl
    · exact Quiet.after (.sendOn _ c) rfl rfl rfl
  · exact .of_eq rfl rfl rfl

theorem Quiet.act (s : State) (c : Cell) (r : Content) (a : Action) : Quiet s (s.act c r a) := by
  cases a with
  | pass => exact .sendOn s _
  | drop t => exact .offer s _ _ (not_looked_dq _)
  | tap t => exact (Quiet.offer s _ _ (not_looked_dq _)).trans (.sendOn _ _)
  | sink => exact .of_eq rfl rfl rfl

theorem Quiet.reportSpent (s : State) (n : Nat) (c : Content) : Quiet s (s.reportSpent n c) := by
  unfold State.reportSpent
  split <;> exact .of_eq rfl rfl rfl

theorem Quiet.reportGap (s : State) (n : Nat) (c : Content) (x : Byte) : Quiet s (s.reportGap n c x) := by
  unfold State.reportGap
  split
  · split <;> exact .of_eq rfl rfl rfl
  · exact .refl s

theorem Quiet.trunkMgmt (s : State) (c : Cell) : Quiet s (s.trunkMgmt c) := by
  unfold State.trunkMgmt
  split
  · exact .of_eq rfl rfl rfl
  · exact Quiet.after (.giveAgent _ _) rfl rfl rfl
  · split
    · exact .of_eq rfl rfl rfl
    · exact Quiet.after (.offer _ _ _ (not_looked_tq _)) rfl rfl rfl

theorem Quiet.sendChoice (s : State) (x : Choice) : Quiet s (s.sendChoice x) := by
  cases x with
  | management e => exact (Quiet.dropHead s mqt).trans (.of_eq rfl rfl rfl)
  | rotation c i e => exact (Quiet.dropHead s _).trans (.of_eq rfl rfl rfl)
  | idle => exact .of_eq rfl rfl rfl

end Sys2Proof.Machine
end

section
namespace Sys2Proof.Machine

/-! ## Requests: what their handlers leave alone -/

/-- In STARTING the Agent executes no request but NODE-QUERY (R142). -/
theorem State.code_of_execute_starting {s : State} {m : HandCell} (hv : s.verdict m = .execute)
    (hn : s.nodeState = .starting) : m.cell.code = 0x01 := by
  by_contra hc
  have hv' := hv
  simp only [State.verdict, hn, hc, ne_eq, not_false_eq_true, and_self, if_true] at hv'
  split at hv'
  · cases hv'
  · split at hv'
    · cases hv'
    · split at hv' <;> cases hv'

/-- The checks of R147 change nothing: a request leaves what its block makes of it, or the state as it was. -/
theorem State.handled_cases (s : State) (misfit : Bool) (r : Request) (handler : Request → State → State × Reply) :
    (s.handled misfit r handler).1 = s ∨ s.handled misfit r handler = handler r s := by
  unfold State.handled
  split
  · exact .inl rfl
  · split
    · exact .inl rfl
    · split
      · exact .inl rfl
      · split
        · exact .inl rfl
        · exact .inr rfl

/-- A request keeps what every quiet operation keeps, when its block keeps it: out of hardware reset, and in STARTING only
where the request is NODE-QUERY (R142, R147). -/
theorem takeRequest_keeps {P : State → Prop} (hP : ∀ s t, Quiet s t → P s → P t) {mine : Byte → Bool}
    {handler : Request → State → State × Reply}
    (hh : ∀ r e, e.held = false → (e.nodeState = .starting → mine 0x01 = true) → P e → P (handler r e).1)
    {s : State} (hs : P s) : P (s.takeRequest mine handler) := by
  unfold State.takeRequest
  split
  · exact hs
  · rename_i m rest _
    split
    · rename_i h
      obtain ⟨hheld, hv, hm⟩ := h
      have hsame := s.entered_sameBlocks m rest
      have hentered : P (s.entered m rest) := hP _ _ (.entered s m rest) hs
      have hstart : (s.entered m rest).nodeState = .starting → mine 0x01 = true := by
        rw [hsame]
        exact fun hn => State.code_of_execute_starting hv hn ▸ hm
      have hblock : P (handler m.request (s.entered m rest)).1 :=
        hh _ _ (by rw [hsame]; exact hheld) hstart hentered
      have hhandled : P ((s.entered m rest).handled m.cell.bodyMisfits m.request handler).1 := by
        rcases (s.entered m rest).handled_cases m.cell.bodyMisfits m.request handler with h | h <;> rw [h]
        · exact hentered
        · exact hblock
      exact hP _ _ (.settleHands _ _) (hP _ _ (.concluded _ _ _ _) hhandled)
    · exact hs

/-- A request whose block is quiet is quiet. -/
theorem Quiet.takeRequest {mine : Byte → Bool} {handler : Request → State → State × Reply}
    (hh : ∀ r e, Quiet e (handler r e).1) (s : State) : Quiet s (s.takeRequest mine handler) :=
  takeRequest_keeps (P := Quiet s) (fun _ _ h k => k.trans h) (fun r e _ _ h => h.trans (hh r e)) (.refl s)

/-! ### The handlers that touch neither the banks nor the records -/

theorem Quiet.readLease (s : State) : Quiet s s.readLease.1 := by
  unfold State.readLease
  split
  · exact .of_eq rfl rfl rfl
  · exact .refl s

theorem handleNodeQuery_quiet (r : Request) (s : State) : Quiet s (handleNodeQuery r s).1 := by
  unfold handleNodeQuery
  split
  · exact .refl s
  · exact .readLease s

theorem handleCountersRead_fst (r : Request) (s : State) : (handleCountersRead r s).1 = s := by
  unfold handleCountersRead
  split
  · split
    · rfl
    · split <;> rfl
  · rfl

theorem handleEntryRead_fst (r : Request) (s : State) : (handleEntryRead r s).1 = s := by
  unfold handleEntryRead
  split
  · split
    · rfl
    · split <;> rfl
  · rfl

theorem handleTableScan_fst (r : Request) (s : State) : (handleTableScan r s).1 = s := by
  unfold handleTableScan
  split
  · split
    · rfl
    · split <;> rfl
  · rfl

theorem handleQueueQuery_fst (r : Request) (s : State) : (handleQueueQuery r s).1 = s := by
  unfold handleQueueQuery
  split
  · split <;> rfl
  · rfl

theorem handlePortQuery_fst (r : Request) (s : State) : (handlePortQuery r s).1 = s := by
  unfold handlePortQuery
  split
  · split <;> rfl
  · rfl

theorem handleNodeSet_quiet (r : Request) (s : State) : Quiet s (handleNodeSet r s).1 := by
  unfold handleNodeSet
  split
  · split
    · exact .refl s
    · dsimp only
      split
      · exact Quiet.after (.destinationSelected _) rfl rfl rfl
      · exact .of_eq rfl rfl rfl
  · exact .refl s

theorem handleQueueSet_quiet (r : Request) (s : State) : Quiet s (handleQueueSet r s).1 := by
  unfold handleQueueSet
  split
  · split
    · exact .refl s
    · rename_i f1 f0 c1 c0 q _
      dsimp only
      generalize (if (addQueuePort q).isSome = true then _ else _) = ceiling
      split
      · exact .refl s
      · split
        · exact .refl s
        · split
          · exact .refl s
          · split
            · exact .refl s
            · exact .setQueue s q _ (List.Subset.refl _)
  · exact .refl s

theorem Quiet.disablePort (s : State) (n : PortId) : Quiet s (s.disablePort n) :=
  (Quiet.leaveFor s n .off).trans (.onPort _ n _)

theorem Quiet.enablePort (s : State) (n : PortId) : Quiet s (s.enablePort n) :=
  (Quiet.movePort s n .down).trans (.tryAlign _ n)

theorem handlePortSet_quiet (r : Request) (s : State) : Quiet s (handlePortSet r s).1 := by
  unfold handlePortSet
  split
  · split
    · exact .refl s
    · dsimp only
      split
      · exact .refl s
      · dsimp only
        split
        · split
          · exact .refl s
          · exact .disablePort s _
        · split
          · exact .enablePort s _
          · exact .refl s
  · exact .refl s

/-- Clearing every counter keeps the entries of every queue. -/
theorem State.entries_clearCounters (s : State) (q : QueueId) : (s.clearCounters.queue q).entries = (s.queue q).entries := by
  fin_cases q <;> rfl

theorem Quiet.clearCounters (s : State) : Quiet s s.clearCounters where
  table := rfl
  banks := rfl
  entries q _ := by rw [s.entries_clearCounters]; exact List.Subset.refl _

theorem handleCountersClear_quiet (r : Request) (s : State) : Quiet s (handleCountersClear r s).1 := by
  unfold handleCountersClear
  split
  · exact .refl s
  · exact .clearCounters s

theorem handleAssignAddress_quiet (r : Request) (s : State) : Quiet s (handleAssignAddress r s).1 := by
  unfold handleAssignAddress
  split
  · split
    · exact .refl s
    · split
      · exact .refl s
      · exact .of_eq rfl rfl rfl
  · exact .refl s

theorem handleBatchEdit_quiet (r : Request) (s : State) : Quiet s (handleBatchEdit r s).1 := by
  unfold handleBatchEdit
  dsimp only
  split
  · exact .refl s
  · split
    · exact .refl s
    · split
      · exact .refl s
      · split
        · exact .refl s
        · exact .of_eq rfl rfl rfl

theorem handleLeaseRenew_quiet (r : Request) (s : State) : Quiet s (handleLeaseRenew r s).1 := by
  unfold handleLeaseRenew
  split
  · exact .refl s
  · split
    · exact .of_eq rfl rfl rfl
    · exact .refl s

/-! ### The commands that touch neither the banks nor the records -/

/-- The commands that touch neither the banks nor the records, whatever the state. -/
def quietCommand : Instr → Bool
  | .tinSignalPresent | .tinSignalLost _ | .unknownRequest | .nodeQuery | .countersRead | .entryRead | .tableScan
  | .queueQuery | .portQuery | .nodeSet | .queueSet | .portSet | .countersClear | .assignAddress | .batchEdit
  | .leaseRenew | .noticeAck | .portSignalPresent _ | .portSignalLost _ _ | .align _ | .alignAck _ _ | .credit _ _
  | .portOpportunity _ | .resendTimerExpiry _ | .stallTimerExpiry _ | .silenceTimeout _ | .ackTimerExpiry
  | .eventReport _ => true
  | _ => false

theorem execTinSignalPresent_quiet (s : State) : Leaves (execTinSignalPresent s) (Quiet s) := by
  unfold execTinSignalPresent
  split <;> exact leaves_next.2 (.of_eq rfl rfl rfl)

theorem execTinSignalLost_quiet (begun : Bool) (s : State) : Leaves (execTinSignalLost begun s) (Quiet s) := by
  unfold execTinSignalLost
  split <;> exact leaves_next.2 (.of_eq rfl rfl rfl)

theorem execNoticeAck_quiet (s : State) : Leaves (execNoticeAck s) (Quiet s) := by
  unfold execNoticeAck
  split
  · exact leaves_next.2 (.refl s)
  · split
    · exact leaves_next.2 (Quiet.after ((Quiet.takeAck _ _ _).trans (.settleHands _ _)) rfl rfl rfl)
    · exact leaves_next.2 (.refl s)

theorem execPortSignalPresent_quiet (n : PortId) (s : State) : Leaves (execPortSignalPresent n s) (Quiet s) := by
  unfold execPortSignalPresent
  split
  · exact leaves_next.2 (.refl s)
  · exact leaves_next.2 ((Quiet.onPort s n _).trans (.tryAlign _ n))

theorem execPortSignalLost_quiet (n : PortId) (begun : Bool) (s : State) :
    Leaves (execPortSignalLost n begun s) (Quiet s) := by
  unfold execPortSignalLost
  split
  · exact leaves_next.2 (.refl s)
  · dsimp only
    split
    · exact leaves_next.2 ((Quiet.onPort s n _).trans (.leaveFor _ n .down))
    · exact leaves_next.2 ((Quiet.onPort s n _).trans (.leaveFor _ n .down))
    · exact leaves_next.2 (.onPort s n _)
    · exact leaves_next.2 (.onPort s n _)

theorem execAlign_quiet (n : PortId) (s : State) : Leaves (execAlign n s) (Quiet s) := by
  unfold execAlign
  split
  · exact leaves_next.2 ((Quiet.countPort s n _).trans (.onAlign _ n))
  · exact leaves_next.2 (.refl s)

theorem execAlignAck_quiet (n : PortId) (token : Byte) (s : State) : Leaves (execAlignAck n token s) (Quiet s) := by
  unfold execAlignAck
  split
  · exact leaves_next.2 ((Quiet.countPort s n _).trans (.onAlignAck _ n token))
  · exact leaves_next.2 (.refl s)

theorem execCredit_quiet (n : PortId) (amount : Byte) (s : State) : Leaves (execCredit n amount s) (Quiet s) := by
  unfold execCredit
  split
  · exact leaves_next.2 ((Quiet.countPort s n _).trans (.onCredit _ n amount))
  · exact leaves_next.2 (.refl s)

theorem execPortOpportunity_quiet (n : PortId) (s : State) : Leaves (execPortOpportunity n s) (Quiet s) := by
  unfold execPortOpportunity
  split
  · exact leaves_next.2 (.refl s)
  · exact leaves_next.2 (.portOpportunity s n)

theorem execResendTimerExpiry_quiet (n : PortId) (s : State) : Leaves (execResendTimerExpiry n s) (Quiet s) := by
  unfold execResendTimerExpiry
  split <;> exact leaves_next.2 (.of_eq rfl rfl rfl)

theorem execStallTimerExpiry_quiet (n : PortId) (s : State) : Leaves (execStallTimerExpiry n s) (Quiet s) := by
  unfold execStallTimerExpiry
  split <;> exact leaves_next.2 (.of_eq rfl rfl rfl)

theorem execSilenceTimeout_quiet (n : PortId) (s : State) : Leaves (execSilenceTimeout n s) (Quiet s) := by
  unfold execSilenceTimeout
  split
  · exact leaves_next.2 (((Quiet.leaveFor s n .down).trans (.countPort _ n _)).trans (.tryAlign _ n))
  · exact leaves_next.2 (.refl s)

theorem execAckTimerExpiry_quiet (s : State) : Leaves (execAckTimerExpiry s) (Quiet s) := by
  unfold execAckTimerExpiry
  split
  · split
    · exact leaves_next.2 (.resendNotice s _ _ _)
    · exact leaves_next.2 (.of_eq rfl rfl rfl)
  · exact leaves_next.2 (.refl s)

theorem execEventReport_quiet (b : Block) (s : State) : Leaves (execEventReport b s) (Quiet s) := by
  unfold execEventReport
  split
  · exact leaves_next.2 (Quiet.after (.takeReport _ _) rfl rfl rfl)
  · exact leaves_next.2 (.refl s)

/-- What a handler that answers without a change leaves. -/
theorem Quiet.of_fst_eq {handler : Request → State → State × Reply} (h : ∀ r s, (handler r s).1 = s) (r : Request)
    (s : State) : Quiet s (handler r s).1 := by
  rw [h]; exact .refl s

theorem exec_quiet {i : Instr} (h : quietCommand i = true) (s : State) : Leaves (exec i s) (Quiet s) := by
  cases i with
  | tinSignalPresent => exact execTinSignalPresent_quiet s
  | tinSignalLost begun => exact execTinSignalLost_quiet begun s
  | unknownRequest => exact leaves_next.2 (.takeRequest (fun _ e => .refl e) s)
  | nodeQuery => exact leaves_next.2 (.takeRequest handleNodeQuery_quiet s)
  | countersRead => exact leaves_next.2 (.takeRequest (.of_fst_eq handleCountersRead_fst) s)
  | entryRead => exact leaves_next.2 (.takeRequest (.of_fst_eq handleEntryRead_fst) s)
  | tableScan => exact leaves_next.2 (.takeRequest (.of_fst_eq handleTableScan_fst) s)
  | queueQuery => exact leaves_next.2 (.takeRequest (.of_fst_eq handleQueueQuery_fst) s)
  | portQuery => exact leaves_next.2 (.takeRequest (.of_fst_eq handlePortQuery_fst) s)
  | nodeSet => exact leaves_next.2 (.takeRequest handleNodeSet_quiet s)
  | queueSet => exact leaves_next.2 (.takeRequest handleQueueSet_quiet s)
  | portSet => exact leaves_next.2 (.takeRequest handlePortSet_quiet s)
  | countersClear => exact leaves_next.2 (.takeRequest handleCountersClear_quiet s)
  | assignAddress => exact leaves_next.2 (.takeRequest handleAssignAddress_quiet s)
  | batchEdit => exact leaves_next.2 (.takeRequest handleBatchEdit_quiet s)
  | leaseRenew => exact leaves_next.2 (.takeRequest handleLeaseRenew_quiet s)
  | noticeAck => exact execNoticeAck_quiet s
  | portSignalPresent n => exact execPortSignalPresent_quiet n s
  | portSignalLost n begun => exact execPortSignalLost_quiet n begun s
  | align n => exact execAlign_quiet n s
  | alignAck n token => exact execAlignAck_quiet n token s
  | credit n amount => exact execCredit_quiet n amount s
  | portOpportunity n => exact execPortOpportunity_quiet n s
  | resendTimerExpiry n => exact execResendTimerExpiry_quiet n s
  | stallTimerExpiry n => exact execStallTimerExpiry_quiet n s
  | silenceTimeout n => exact execSilenceTimeout_quiet n s
  | ackTimerExpiry => exact execAckTimerExpiry_quiet s
  | eventReport b => exact execEventReport_quiet b s
  | _ => cases h

/-! ## Arrivals: the checks, and the tags that come through them -/

/-- A well-formed DATA cell does not carry the management tag (R96, R128). -/
theorem tag_of_portWellFormed {bytes : List Byte} (h : portWellFormed bytes = true)
    (hk : (cellOfBytes bytes).kind = .data) : (cellOfBytes bytes).tag ≠ mgmtTag := by
  simp only [portWellFormed, Bool.and_eq_true, Bool.not_eq_true'] at h
  obtain ⟨-, htk⟩ := h
  simpa [tagKindWrong, hk] using htk

theorem portWellFormed_of_trunk {bytes : List Byte} (h : trunkWellFormed bytes = true) : portWellFormed bytes = true := by
  simp only [trunkWellFormed, Bool.and_eq_true] at h
  exact h.1

/-- A well-formed arrival on TIN is counted and handled by its kind (R96). -/
theorem State.trunkArrive_of_wellFormed (s : State) {bytes : List Byte} (h : trunkWellFormed bytes = true) :
    s.trunkArrive bytes =
      (s.countRx fun k => { k with arrivals := k.arrivals + 1 }).onTrunkCell (cellOfBytes bytes) := by
  simp only [trunkWellFormed, portWellFormed, Bool.and_eq_true, decide_eq_true_eq, Bool.not_eq_true',
    decide_eq_false_iff_not] at h
  obtain ⟨⟨⟨⟨hlen, hhcs⟩, hl⟩, htk⟩, hkind⟩ := h
  simp [State.trunkArrive, hlen, hhcs, Nat.not_lt.2 hl, htk, hkind]

/-- Any other arrival on TIN is counted and goes no further (R96). -/
theorem State.trunkArrive_of_malformed (s : State) {bytes : List Byte} (h : trunkWellFormed bytes = false) :
    ∃ f, s.trunkArrive bytes = (s.countRx fun k => { k with arrivals := k.arrivals + 1 }).countRx f := by
  unfold State.trunkArrive
  dsimp only
  split
  · exact ⟨_, rfl⟩
  · split
    · exact ⟨_, rfl⟩
    · split
      · exact ⟨_, rfl⟩
      · split
        · exact ⟨_, rfl⟩
        · split
          · exact ⟨_, rfl⟩
          · simp_all [trunkWellFormed, portWellFormed]

/-- A well-formed arrival on a port is counted and handled by its kind (R128). -/
theorem State.portArrive_of_wellFormed (s : State) (n : PortId) {bytes : List Byte} (h : portWellFormed bytes = true) :
    s.portArrive n bytes = (s.portCounted n).onPortCell n (cellOfBytes bytes) := by
  simp only [portWellFormed, Bool.and_eq_true, decide_eq_true_eq, Bool.not_eq_true'] at h
  obtain ⟨⟨⟨hlen, hhcs⟩, hl⟩, htk⟩ := h
  simp [State.portArrive, hlen, hhcs, Nat.not_lt.2 hl, htk]

/-- Any other arrival on a port is counted and goes no further (R128). -/
theorem State.portArrive_of_malformed (s : State) (n : PortId) {bytes : List Byte} (h : portWellFormed bytes = false) :
    ∃ f, s.portArrive n bytes = (s.portCounted n).countPort n f := by
  unfold State.portArrive
  dsimp only
  split
  · exact ⟨_, rfl⟩
  · split
    · exact ⟨_, rfl⟩
    · split
      · exact ⟨_, rfl⟩
      · split
        · exact ⟨_, rfl⟩
        · simp_all [portWellFormed]

end Sys2Proof.Machine
end

section
namespace Sys2Proof.Machine

/-! ## O6: the law of the banks

The law looks at `bankView` alone. The commands that write records or queue cells keep the view; the few that change it
are looked at one by one, through the four ways in which the banks can stand. -/

/-! ### The view of the banks after an operation -/

@[simp] theorem State.bankView_refuse (s : State) (n : Nat) (c : Content) : (s.refuse n c).bankView = s.bankView := rfl

@[simp] theorem State.bankView_lookupFault (s : State) (n : Nat) (c : Content) :
    (s.lookupFault n c).bankView = s.bankView := rfl

@[simp] theorem State.bankView_claim (s : State) (q : QueueId) (e : Entry) : (s.claim q e).1.bankView = s.bankView := by
  simp [State.bankView]

@[simp] theorem State.bankView_offerAdd (s : State) (n : PortId) (c : Cell) (m : Bool) :
    (s.offerAdd n c m).1.bankView = s.bankView := s.bankView_claim _ _

@[simp] theorem State.bankView_lookup (s : State) (c : Cell) : (s.lookup c).bankView = s.bankView := by
  unfold State.lookup
  dsimp only
  split
  · split
    · exact (Quiet.unknownTag s c).banks
    iterate 3 exact s.bankView_refuse _ _
    · exact (Quiet.act _ _ _ _).banks.trans ((Quiet.reportGap _ _ _ _).banks.trans (Quiet.reportSpent _ _ _).banks)
  · exact s.bankView_lookupFault _ _

@[simp] theorem State.bankView_holdCell (s : State) (c : Cell) : (s.holdCell c).bankView = s.bankView := by
  have hclaim := s.bankView_claim hq { cell := c, source := .trunk, marked := false }
  unfold State.holdCell
  split <;> rename_i heq <;> rw [heq] at hclaim <;> exact hclaim

@[simp] theorem State.bankView_meetPolicy (s : State) (c : Cell) : (s.meetPolicy c).bankView = s.bankView := by
  unfold State.meetPolicy
  split
  · exact s.bankView_holdCell c
  · exact s.bankView_holdCell c
  · split
    · rfl
    · exact (Quiet.sendOn _ c).banks
  · rfl

@[simp] theorem State.bankView_steerTrunk (s : State) (c : Cell) : (s.steerTrunk c).bankView = s.bankView := by
  unfold State.steerTrunk
  dsimp only
  split
  · exact s.bankView_holdCell c
  · split
    · exact s.bankView_lookup c
    · exact s.bankView_meetPolicy c
    · rfl
    · rfl

theorem State.bankView_onTrunkCell (s : State) (c : Cell) : (s.onTrunkCell c).bankView = s.bankView := by
  unfold State.onTrunkCell
  split
  · rfl
  · unfold State.trunkData
    split
    · exact State.bankView_steerTrunk _ c
    · split
      · rfl
      · exact (Quiet.offer _ _ _ (not_looked_tq _)).banks
  · exact (Quiet.trunkMgmt s c).banks
  · rfl

theorem State.bankView_trunkArrive (s : State) (bytes : List Byte) : (s.trunkArrive bytes).bankView = s.bankView := by
  cases h : trunkWellFormed bytes with
  | true => rw [s.trunkArrive_of_wellFormed h]; exact State.bankView_onTrunkCell _ _
  | false =>
    obtain ⟨f, hf⟩ := s.trunkArrive_of_malformed h
    rw [hf]; rfl

@[simp] theorem State.bankView_addFails (s : State) (n : PortId) (tag : Nat) (r : Record) :
    (s.addFails n tag r).bankView = s.bankView := by
  unfold State.addFails
  split
  · split <;> rfl
  · rfl

@[simp] theorem State.bankView_addCharge (s : State) (tag : Nat) (r : Content) (a : Action) :
    (s.addCharge tag r a).bankView = s.bankView := (Quiet.reportSpent _ _ _).banks

theorem State.bankView_addCheck (s : State) (n : PortId) (c : Cell) : (s.addCheck n c).bankView = s.bankView := by
  unfold State.addCheck
  dsimp only
  split <;> simp

theorem State.bankView_addMeetsPolicy (s : State) (n : PortId) (c : Cell) :
    (s.addMeetsPolicy n c).bankView = s.bankView := by
  have hmarked := s.bankView_offerAdd n c true
  have hplain := s.bankView_offerAdd n { c with hop := s.agent.settings.hopLimit } false
  unfold State.addMeetsPolicy
  split
  · split <;> rename_i heq <;> rw [heq] at hmarked <;> exact hmarked
  · split <;> rename_i heq <;> rw [heq] at hmarked <;> exact hmarked
  · split <;> rename_i heq <;> rw [heq] at hplain <;> exact hplain
  · rfl

theorem State.bankView_steerAdd (s : State) (n : PortId) (c : Cell) : (s.steerAdd n c).bankView = s.bankView := by
  unfold State.steerAdd
  split
  · exact s.bankView_addCheck n c
  · exact s.bankView_addMeetsPolicy n c
  · rfl
  · rfl

theorem State.bankView_onPortCell (s : State) (n : PortId) (c : Cell) : (s.onPortCell n c).bankView = s.bankView := by
  unfold State.onPortCell
  split
  · rfl
  · split
    · unfold State.onAddData
      split
      · rfl
      · exact State.bankView_steerAdd _ n c
    · rfl
  · split
    · exact (Quiet.onPortMgmt s n c).banks
    · rfl
  · exact (Quiet.onLink s n c).banks

theorem State.bankView_portArrive (s : State) (n : PortId) (bytes : List Byte) :
    (s.portArrive n bytes).bankView = s.bankView := by
  cases h : portWellFormed bytes with
  | true => rw [s.portArrive_of_wellFormed n h]; exact State.bankView_onPortCell _ n _
  | false =>
    obtain ⟨f, hf⟩ := s.portArrive_of_malformed n h
    rw [hf]; rfl

theorem State.bankView_deferredCheck (s : State) (n : PortId) : (s.deferredCheck n).bankView = s.bankView := by
  unfold State.deferredCheck
  split
  · rfl
  · split
    · dsimp only
      split
      · exact State.bankView_addCharge s _ _ _
      · exact (Quiet.dropHead _ _).banks.trans (s.bankView_addFails _ _ _)
    · rfl

theorem bankView_deferredChecks (fuel : Nat) (n : PortId) (s : State) :
    (deferredChecks fuel n s).bankView = s.bankView := by
  induction fuel generalizing s with
  | zero => rfl
  | succ fuel ih => exact (ih _).trans (s.bankView_deferredCheck n)

theorem foldl_bankView {α : Type} {f : State → α → State} (h : ∀ s a, (f s a).bankView = s.bankView) (l : List α)
    (s : State) : (l.foldl f s).bankView = s.bankView := by
  induction l generalizing s with
  | nil => rfl
  | cons a rest ih => exact (ih _).trans (h s a)

theorem State.bankView_allDeferred (s : State) (order : List PortId) : (s.allDeferred order).bankView = s.bankView :=
  (foldl_bankView (fun _ _ => bankView_deferredChecks _ _ _) _ _).trans
    (foldl_bankView State.bankView_deferredCheck _ _)

theorem State.bankView_writeVerified (s : State) (n : Nat) (c : Content) (v : Verify) :
    (s.writeVerified n c v).1.bankView = s.bankView := by
  rcases s.writeVerified_cases n c v with h | ⟨read, -, h⟩ <;> rw [h] <;> rfl

theorem State.bankView_applyReplace (s : State) (p n : Nat) (c : Content) (v : Verify) :
    (s.applyReplace p n c v).bankView = s.bankView := s.bankView_writeVerified n _ v

theorem State.bankView_applyDecided (s : State) (p n : Nat) (decision : Content → Option Content) (v : Verify) :
    (s.applyDecided p n decision v).bankView = s.bankView := by
  unfold State.applyDecided
  dsimp only
  split
  · split
    · rfl
    · exact s.bankView_writeVerified n _ v
  · rfl

theorem bankView_clearRun (vs : List (UsableTag × Verify)) (tags : List Nat) (s : State) (failed : Option Nat) :
    (clearRun vs tags (s, failed)).1.bankView = s.bankView := by
  induction tags generalizing s failed with
  | nil => rfl
  | cons n rest ih => exact (ih _ _).trans (s.bankView_writeVerified n _ _)

theorem State.bankView_applyClearBank (s : State) (p : Nat) (b : BankId) (vs : List (UsableTag × Verify)) :
    (s.applyClearBank p b vs).bankView = s.bankView := by
  have hrun := bankView_clearRun vs (bankTags b) s none
  unfold State.applyClearBank
  split <;> rename_i heq <;> rw [heq] at hrun <;> exact hrun

/-- The commands that write records or queue cells and keep the view of the banks. -/
def steadyCommand : Instr → Bool
  | .recordDamage _ _ | .tinArrival _ | .portArrival _ _ | .toutOpportunity _ | .write _ | .clear _ | .refill _ | .bar _
  | .unbar _ | .clearBank _ => true
  | i => quietCommand i

theorem exec_bankView {i : Instr} (h : steadyCommand i = true) (s : State) :
    Leaves (exec i s) fun t => t.bankView = s.bankView := by
  cases i with
  | recordDamage tag content =>
    simp only [exec, execRecordDamage]
    split <;> exact leaves_next.2 rfl
  | tinArrival bytes =>
    simp only [exec, execTinArrival]
    split
    · exact leaves_next.2 (s.bankView_trunkArrive bytes)
    · exact leaves_next.2 rfl
  | portArrival n bytes =>
    simp only [exec, execPortArrival]
    split
    · exact leaves_next.2 (s.bankView_portArrive n bytes)
    · exact leaves_next.2 rfl
  | toutOpportunity order =>
    simp only [exec, execToutOpportunity]
    split
    · exact leaves_next.2 rfl
    · exact leaves_next.2 ((Quiet.sendChoice _ _).banks.trans (s.bankView_allDeferred order))
  | write v =>
    simp only [exec, execWrite]
    split
    · exact leaves_next.2 (s.bankView_applyReplace _ _ _ v)
    · exact leaves_next.2 rfl
  | clear v =>
    simp only [exec, execClear]
    split
    · exact leaves_next.2 (s.bankView_applyReplace _ _ _ v)
    · exact leaves_next.2 rfl
  | refill v =>
    simp only [exec, execRefill]
    split
    · exact leaves_next.2 (s.bankView_applyDecided _ _ _ v)
    · exact leaves_next.2 rfl
  | bar v =>
    simp only [exec, execBar]
    split
    · exact leaves_next.2 (s.bankView_applyDecided _ _ _ v)
    · exact leaves_next.2 rfl
  | unbar v =>
    simp only [exec, execUnbar]
    split
    · exact leaves_next.2 (s.bankView_applyDecided _ _ _ v)
    · exact leaves_next.2 rfl
  | clearBank vs =>
    simp only [exec, execClearBank]
    split
    · exact leaves_next.2 (s.bankView_applyClearBank _ _ vs)
    · exact leaves_next.2 rfl
  | _ => exact Leaves.mono (exec_quiet (by exact h) s) fun _ ht => ht.banks

/-! ### The four ways in which the banks stand -/

/-- The node is held in hardware reset: every bank is UNREADY (R15). -/
structure HeldReset (s : State) : Prop where
  held : s.held = true
  starting : s.nodeState = .starting
  batch : s.batch.state = .none
  banks : ∀ k, s.bank k = .unready

/-- The node is in the start-up clear: the banks below that of the next tag are SERVING, it is CLEARING, and those above are
UNREADY (R16, R191). -/
structure StartingUp (s : State) : Prop where
  held : s.held = false
  starting : s.nodeState = .starting
  batch : s.batch.state = .none
  next : s.clearNext < 4095
  banks : ∀ k, s.bank k =
    if k < bankOfNat s.clearNext then .serving else if k = bankOfNat s.clearNext then .clearing else .unready

/-- The node is READY with no apply in progress, and every bank is SERVING. -/
structure Resting (s : State) : Prop where
  held : s.held = false
  ready : s.nodeState = .ready
  batch : s.batch.state ≠ .applying
  banks : ∀ k, s.bank k = .serving

/-- The node is READY with an apply in progress in bank `b`, and every other bank is SERVING. -/
structure Applying (s : State) (b : BankId) : Prop where
  held : s.held = false
  ready : s.nodeState = .ready
  batch : s.batch.state = .applying
  bank : s.bank b = .updating
  others : ∀ k, k ≠ b → s.bank k = .serving

/-- The law of the banks, by the way in which they stand. -/
inductive BanksStand (s : State) : Prop where
  | reset (h : HeldReset s)
  | clearing (h : StartingUp s)
  | resting (h : Resting s)
  | applying (b : BankId) (h : Applying s b)

theorem bankLaws_iff (s : State) : BankLaws s ↔ BanksStand s := by
  constructor
  · intro h
    cases hh : s.held with
    | true =>
      simp only [BankLaws, hh, if_true] at h
      obtain ⟨hn, hb, hbanks⟩ := h
      exact .reset ⟨hh, hn, hb, hbanks⟩
    | false =>
      cases hn : s.nodeState with
      | starting =>
        simp only [BankLaws, hh, hn, Bool.false_eq_true, if_false] at h
        obtain ⟨hb, hnext, hbanks⟩ := h
        exact .clearing ⟨hh, hn, hb, hnext, hbanks⟩
      | ready =>
        by_cases ha : s.batch.state = .applying
        · simp only [BankLaws, hh, hn, ha, Bool.false_eq_true, if_false, if_true] at h
          obtain ⟨b, hb, hk⟩ := h
          exact .applying b ⟨hh, hn, ha, hb, hk⟩
        · simp only [BankLaws, hh, hn, ha, Bool.false_eq_true, if_false] at h
          exact .resting ⟨hh, hn, ha, h⟩
  · rintro (h | h | h | ⟨b, h⟩)
    · simp only [BankLaws, h.held, if_true]
      exact ⟨h.starting, h.batch, h.banks⟩
    · simp only [BankLaws, h.held, h.starting, Bool.false_eq_true, if_false]
      exact ⟨h.batch, h.next, h.banks⟩
    · simp only [BankLaws, h.held, h.ready, h.batch, Bool.false_eq_true, if_false]
      exact h.banks
    · simp only [BankLaws, h.held, h.ready, h.batch, Bool.false_eq_true, if_false, if_true]
      exact ⟨b, h.bank, h.others⟩

theorem Resting.congr {s t : State} (hv : t.bankView = s.bankView) (h : Resting s) : Resting t := by
  simp only [State.bankView, Prod.mk.injEq] at hv
  obtain ⟨h1, h2, h3, -, h5⟩ := hv
  exact ⟨h1.trans h.held, h2.trans h.ready, by rw [h5]; exact h.batch,
    fun k => (State.bank_of_banks h3 k).trans (h.banks k)⟩

/-- How the banks stand depends on the view alone. -/
theorem BanksStand.congr {s t : State} (h : BanksStand s) (hv : t.bankView = s.bankView) : BanksStand t := by
  have hv' := hv
  simp only [State.bankView, Prod.mk.injEq] at hv'
  obtain ⟨h1, h2, h3, h4, h5⟩ := hv'
  have hb (k : BankId) : t.bank k = s.bank k := State.bank_of_banks h3 k
  cases h with
  | reset h => exact .reset ⟨h1.trans h.held, h2.trans h.starting, h5.trans h.batch, fun k => (hb k).trans (h.banks k)⟩
  | clearing h =>
    exact .clearing ⟨h1.trans h.held, h2.trans h.starting, h5.trans h.batch, by rw [h4]; exact h.next,
      fun k => by rw [h4, hb]; exact h.banks k⟩
  | resting h => exact .resting (h.congr hv)
  | applying b h =>
    exact .applying b ⟨h1.trans h.held, h2.trans h.ready, h5.trans h.batch, (hb b).trans h.bank,
      fun k hk => (hb k).trans (h.others k hk)⟩

theorem BanksStand.heldReset {s : State} (h : BanksStand s) (hh : s.held = true) : HeldReset s := by
  cases h with
  | reset h => exact h
  | clearing h => rw [h.held] at hh; cases hh
  | resting h => rw [h.held] at hh; cases hh
  | applying b h => rw [h.held] at hh; cases hh

/-- With a batch that is neither ended nor being applied, the banks rest: no batch is open in the start-up clear. -/
theorem BanksStand.rests {s : State} (h : BanksStand s) (hn : s.batch.state ≠ .none) (ha : s.batch.state ≠ .applying) :
    Resting s := by
  cases h with
  | reset h => exact absurd h.batch hn
  | clearing h => exact absurd h.batch hn
  | resting h => exact h
  | applying b h => exact absurd h.batch ha

/-- While a batch is being applied one bank is UPDATING. -/
theorem BanksStand.applies {s : State} (h : BanksStand s) (ha : s.batch.state = .applying) : ∃ b, Applying s b := by
  cases h with
  | reset h => rw [h.batch] at ha; cases ha
  | clearing h => rw [h.batch] at ha; cases ha
  | resting h => exact absurd ha h.batch
  | applying b h => exact ⟨b, h⟩

/-- A READY node rests, or applies a batch. -/
theorem BanksStand.ready_cases {s : State} (h : BanksStand s) (hr : s.nodeState = .ready) :
    Resting s ∨ ∃ b, Applying s b := by
  cases h with
  | reset h => rw [h.starting] at hr; cases hr
  | clearing h => rw [h.starting] at hr; cases hr
  | resting h => exact .inl h
  | applying b h => exact .inr ⟨b, h⟩

/-- Out of hardware reset, a node that is STARTING is in the start-up clear. -/
theorem BanksStand.startingUp {s : State} (h : BanksStand s) (hh : s.held = false) (hn : s.nodeState = .starting) :
    StartingUp s := by
  cases h with
  | reset h => rw [h.held] at hh; cases hh
  | clearing h => exact h
  | resting h => rw [h.ready] at hn; cases hn
  | applying b h => rw [h.ready] at hn; cases hn

/-- A resting node still rests when its batch moves to another state than APPLYING. -/
theorem Resting.withBatch {s : State} (h : Resting s) (x : Batch) (hx : x.state ≠ .applying) :
    Resting { s with batch := x } := ⟨h.held, h.ready, hx, h.banks⟩

/-- A resting node goes over to an apply when a bank becomes UPDATING with the batch. -/
theorem Resting.start {s : State} (h : Resting s) (x : Batch) (hx : x.state = .applying) (b : BankId) :
    Applying ({ s with batch := x }.setBank b .updating) b :=
  ⟨h.held, h.ready, hx, State.bank_setBank_same _ b _, fun k hk =>
    (State.bank_setBank_other _ _ hk).trans (h.banks k)⟩

/-- The bank being applied returns to SERVING: then every bank is SERVING. -/
theorem Applying.bank_serving {s : State} {b : BankId} (h : Applying s b) (k : BankId) :
    (s.setBank b .serving).bank k = .serving := by
  rw [s.bank_setBank]
  split
  · rfl
  · exact h.others k ‹_›

/-- The bank that is UPDATING is the bank in progress. -/
theorem Applying.bankInProgress {s : State} {b k : BankId} (h : Applying s b) (hk : s.bankInProgress = some k) : k = b := by
  by_contra hne
  have := List.find?_some hk
  simp [h.others k hne] at this

/-! ### The batch, as the banks see it -/

theorem State.bankView_deliverCommit (s : State) (o : Origin) (seq : BitVec 16) (st : Status) (body : List Byte) :
    (s.deliverCommit o seq st body).bankView = s.bankView :=
  ((RequestFrame.onEntry _ _ _).trans (RequestFrame.offerResponse _ _ _)).quiet.banks

theorem State.bankView_batchEndSignal (s : State) : s.batchEndSignal.bankView = s.bankView := by
  unfold State.batchEndSignal
  split <;> rfl

theorem State.bankView_finishBatch (s : State) (st : Status) (applied : List BankId) (os : List Outcome) :
    (s.finishBatch st applied os).bankView = s.discardBatch.bankView := by
  unfold State.finishBatch
  refine (State.bankView_batchEndSignal _).trans ?_
  split
  · exact State.bankView_deliverCommit _ _ _ _ _
  · rfl

theorem Resting.finishBatch {s : State} (h : Resting s) (st : Status) (applied : List BankId) (os : List Outcome) :
    Resting (s.finishBatch st applied os) :=
  (h.withBatch s.batch.ended (by simp [Batch.ended])).congr (s.bankView_finishBatch st applied os)

theorem Resting.startApply {s : State} (h : Resting s) : BanksStand s.startApply := by
  unfold State.startApply
  split
  · exact .applying _ (h.start _ rfl _)
  · exact .resting (h.finishBatch _ _ _)

/-- A WAITING batch that may begin does so from resting banks (R51, R53). -/
theorem BanksStand.tryStart {s : State} (h : BanksStand s) : BanksStand s.tryStart := by
  unfold State.tryStart
  split
  · rename_i hw
    exact (h.rests (by simp [hw.1]) (by simp [hw.1])).startApply
  · exact h

/-- Discarding a batch that is OPEN leaves the banks resting (R43). -/
theorem BanksStand.discarded {s : State} (h : BanksStand s) (ho : s.batch.state = .opened) : BanksStand s.discardBatch :=
  .resting ((h.rests (by simp [ho]) (by simp [ho])).withBatch s.batch.ended (by simp [Batch.ended]))

theorem BanksStand.discardOpen {s : State} (h : BanksStand s) : BanksStand s.discardOpen := by
  unfold State.discardOpen
  split
  · rename_i ho
    exact h.discarded ho
  · exact h

/-- A bank end keeps the law: its bank returns to SERVING, and the next touched bank becomes UPDATING or the batch ends
(R54). -/
theorem Applying.bankEnd {s : State} {b : BankId} (h : Applying s b) : BanksStand (s.bankEnd b) := by
  have hdone (st : Status) (applied : List BankId) (os : List Outcome) :
      BanksStand ((s.setBank b .serving).finishBatch st applied os) := by
    refine .resting (Resting.congr (State.bankView_finishBatch _ st applied os) ?_)
    exact ⟨h.held, h.ready, by simp [Batch.ended], h.bank_serving⟩
  unfold State.bankEnd
  dsimp only
  split
  · split
    · exact hdone _ _ _
    · rename_i k _ _ _
      refine .applying k ⟨h.held, h.ready, h.batch, State.bank_setBank_same _ k _, fun j hj => ?_⟩
      rw [State.bank_setBank_other _ _ hj]
      exact h.bank_serving j
  · exact hdone _ _ _

/-! ### The requests that change the view -/

theorem handleQueueFlush_banksStand (r : Request) {s : State} (h : BanksStand s) : BanksStand (handleQueueFlush r s).1 := by
  unfold handleQueueFlush
  split
  · split
    · exact h
    · dsimp only
      split
      · exact (h.congr (Quiet.flush s _).banks).tryStart
      · exact h.congr (Quiet.flush s _).banks
  · exact h

/-- After the banks are stopped none is UPDATING (R68). -/
theorem State.bank_stopBanks (s : State) (k : BankId) :
    s.stopBanks.bank k = if s.bank k = .updating then .serving else s.bank k := by
  fin_cases k <;> rfl

theorem State.bankView_nodeReset (s : State) (r : Request) : (s.nodeReset r).bankView = s.stopBanks.discardBatch.bankView := by
  have hagent (t : State) (a : Agent) : ({ t with agent := a } : State).bankView = t.bankView := rfl
  refine (hagent _ _).trans ?_
  refine (Quiet.clearCounters _).banks.trans ?_
  refine (foldl_bankView (fun t n => (Quiet.resetPort t n).banks) allFour _).trans ?_
  exact foldl_bankView (fun t q => (Quiet.flush t q).banks) allQueues _

/-- A NODE-RESET of a READY node leaves its banks resting (R68, R195). -/
theorem Resting.nodeReset {s : State} (h : BanksStand s) (hh : s.held = false) (hr : s.nodeState = .ready) (r : Request) :
    Resting (s.nodeReset r) := by
  refine Resting.congr (s.bankView_nodeReset r) ⟨hh, hr, by simp [Batch.ended], fun k => ?_⟩
  rw [State.bank_discardBatch, s.bank_stopBanks]
  rcases h.ready_cases hr with hs | ⟨b, hb⟩
  · simp [hs.banks k]
  · by_cases hk : k = b
    · simp [hk, hb.bank]
    · simp [hb.others k hk]

theorem handleNodeReset_banksStand (r : Request) {s : State} (h : BanksStand s) (hh : s.held = false)
    (hr : s.nodeState = .ready) : BanksStand (handleNodeReset r s).1 := by
  unfold handleNodeReset
  split
  · exact h
  · exact .resting (Resting.nodeReset h hh hr r)

theorem handleBatchOpen_banksStand (r : Request) {s : State} (h : BanksStand s)
    (hr : s.nodeState = .ready) : BanksStand (handleBatchOpen r s).1 := by
  unfold handleBatchOpen
  split
  · split
    · exact h
    · split
      · exact h
      · split
        · rename_i hn
          rcases h.ready_cases hr with hs | ⟨b, hb⟩
          · exact .resting (hs.withBatch _ (by simp))
          · rw [hb.batch] at hn
            cases hn
        all_goals exact h
  · exact h

theorem handleBatchCommit_banksStand (r : Request) {s : State} (h : BanksStand s) : BanksStand (handleBatchCommit r s).1 := by
  unfold handleBatchCommit
  split
  · split
    iterate 3 exact h
    · rename_i ho
      split
      · exact h
      · split
        · exact h
        · split
          · exact h
          · have hw := (h.rests (by simp [ho]) (by simp [ho])).withBatch
              { s.batch with state := .waiting, commit := some (r.origin, r.seq) } (by simp)
            exact ((BanksStand.resting hw).congr (RequestFrame.onEntry _ _ _).quiet.banks).tryStart
  · exact h

theorem handleBatchAbort_banksStand (r : Request) {s : State} (h : BanksStand s) : BanksStand (handleBatchAbort r s).1 := by
  unfold handleBatchAbort
  split
  · split
    · exact h
    · split
      · exact h
      · rename_i ho
        exact h.discarded ho
      · rename_i hw
        exact .resting ((h.rests (by simp [hw]) (by simp [hw])).finishBatch _ _ _)
      · exact h.congr rfl
  · exact h

theorem handleLeaseTake_banksStand (r : Request) {s : State} (h : BanksStand s) : BanksStand (handleLeaseTake r s).1 := by
  unfold handleLeaseTake
  split
  · split
    · exact h
    · split
      · exact h.congr rfl
      · split
        · exact h.congr rfl
        · split
          · exact h.congr (Quiet.readLease s).banks
          · split
            · exact h
            · exact h.discardOpen.congr rfl
  · exact h

theorem handleLeaseGive_banksStand (r : Request) {s : State} (h : BanksStand s) : BanksStand (handleLeaseGive r s).1 := by
  unfold handleLeaseGive
  split
  · exact h
  · split
    · exact h
    · split
      · exact h
      · exact h
      · rename_i ho
        exact (h.discarded ho).congr rfl
      · exact h.congr rfl

/-- A request of the catalogue keeps the law of the banks when its block keeps it on a READY node, as no request but
NODE-QUERY is executed in STARTING (R142). -/
theorem takeRequest_banksStand {code : Byte} {handler : Request → State → State × Reply} (hc : isCode code 0x01 = false)
    (hh : ∀ r e, e.held = false → e.nodeState = .ready → BanksStand e → BanksStand (handler r e).1) {s : State}
    (h : BanksStand s) : BanksStand (s.takeRequest (isCode code) handler) := by
  refine takeRequest_keeps (P := BanksStand) (fun _ _ hq hs => hs.congr hq.banks) (fun r e hheld hstart he => ?_) h
  refine hh r e hheld ?_ he
  cases hn : e.nodeState with
  | starting => rw [hstart hn] at hc; cases hc
  | ready => rfl

/-! ### Reset and the start-up clear -/

theorem inReset_banksStand (table : Table) (unitNumber : BitVec 32) (past : List OriginPast) (draws : Nat)
    (pending : List Instr) : BanksStand (State.inReset table unitNumber past draws pending) :=
  .reset ⟨rfl, rfl, rfl, fun b => by fin_cases b <;> rfl⟩

/-- HARDWARE_RESET_END begins the start-up clear with bank 0 (R16, R190). -/
theorem execHardwareResetEnd_banksStand (naddr : Byte) (lmgt : Bool) {s : State} (h : BanksStand s) :
    Leaves (execHardwareResetEnd naddr lmgt s) BanksStand := by
  unfold execHardwareResetEnd
  split
  · rename_i hheld
    have hs := h.heldReset hheld
    refine leaves_next.2 (.clearing ⟨rfl, hs.starting, hs.batch, by simp, fun k => ?_⟩)
    have hk : State.bank { s with
      held := false
      clearNext := 0
      agent := { s.agent with address := addressOfStraps naddr, lmgt := lmgt } } k = .unready := hs.banks k
    rw [State.bank_setBank, hk]
    simp [show bankOfNat 0 = 0 from rfl]
  · exact leaves_next.2 h

/-- The bank of a usable position. -/
theorem bankOfNat_val {n : Nat} (h : n < 4095) : (bankOfNat n).val = n / 1024 := by
  simp [bankOfNat, Fin.ofNat]; omega

/-- Within a bank the next position is of the same bank (R1). -/
theorem bankOfNat_succ_within {n : Nat} (h : n < 4095) (hl : n ≠ lastTag (bankOfNat n)) :
    n + 1 < 4095 ∧ bankOfNat (n + 1) = bankOfNat n := by
  rw [lastTag, bankOfNat_val h] at hl
  have hlt : n + 1 < 4095 := by omega
  exact ⟨hlt, Fin.ext (by rw [bankOfNat_val h, bankOfNat_val hlt]; omega)⟩

/-- After the last position of a bank below bank 3 comes the next bank (R1). -/
theorem bankOfNat_succ_last {n : Nat} (h : n < 4095) (hl : n = lastTag (bankOfNat n)) (hb : (bankOfNat n).val < 3) :
    n + 1 < 4095 ∧ bankOfNat (n + 1) = bankOfNat n + 1 := by
  rw [bankOfNat_val h] at hb
  rw [lastTag, bankOfNat_val h] at hl
  have hlt : n + 1 < 4095 := by omega
  refine ⟨hlt, Fin.ext ?_⟩
  rw [bankOfNat_val hlt, Fin.val_add, bankOfNat_val h]
  simp; omega

/-- The start-up clear goes on within a bank (R191). -/
theorem StartingUp.next_within {s t : State} (h : StartingUp s) (hv : t.bankView = s.bankView)
    (hl : s.clearNext ≠ lastTag (bankOfNat s.clearNext)) : StartingUp { t with clearNext := s.clearNext + 1 } := by
  obtain ⟨hlt, hb⟩ := bankOfNat_succ_within h.next hl
  simp only [State.bankView, Prod.mk.injEq] at hv
  obtain ⟨h1, h2, h3, -, h5⟩ := hv
  refine ⟨h1.trans h.held, h2.trans h.starting, h5.trans h.batch, hlt, fun k => ?_⟩
  dsimp only
  rw [hb]
  exact (State.bank_of_banks h3 k).trans (h.banks k)

/-- The end of a bank below bank 3 in the start-up clear (R191). -/
theorem StartingUp.next_bank {s t : State} (h : StartingUp s) (hv : t.bankView = s.bankView)
    (hl : s.clearNext = lastTag (bankOfNat s.clearNext)) (hb : (bankOfNat s.clearNext).val < 3) :
    StartingUp ((State.setBank { t with clearNext := s.clearNext + 1 } (bankOfNat s.clearNext) .serving).setBank
      (bankOfNat s.clearNext + 1) .clearing) := by
  obtain ⟨hlt, hnext⟩ := bankOfNat_succ_last h.next hl hb
  simp only [State.bankView, Prod.mk.injEq] at hv
  obtain ⟨h1, h2, h3, -, h5⟩ := hv
  refine ⟨h1.trans h.held, h2.trans h.starting, h5.trans h.batch, hlt, fun k => ?_⟩
  have hk : State.bank { t with clearNext := s.clearNext + 1 } k = _ := (State.bank_of_banks h3 k).trans (h.banks k)
  rw [State.bank_setBank, State.bank_setBank, hk]
  simp only [State.setBank_clearNext, hnext]
  generalize bankOfNat s.clearNext = b at *
  revert hb
  clear * -
  revert b k
  decide

/-- The end of the start-up clear: every bank is SERVING (R191, R192). -/
theorem StartingUp.done {s t : State} (h : StartingUp s) (hv : t.bankView = s.bankView)
    (hb : ¬(bankOfNat s.clearNext).val < 3) :
    Resting ((State.setBank { t with clearNext := s.clearNext + 1 } (bankOfNat s.clearNext) .serving).becomeReady) := by
  simp only [State.bankView, Prod.mk.injEq] at hv
  obtain ⟨h1, h2, h3, -, h5⟩ := hv
  refine Resting.congr (foldl_bankView (fun u n => (Quiet.tryAlign u n).banks) allFour _)
    ⟨h1.trans h.held, rfl, ?_, fun k => ?_⟩
  · have hbatch : t.batch.state = .none := h5.trans h.batch
    simp [hbatch]
  · refine (State.bank_setBank _ _ k _).trans ?_
    split
    · rfl
    · have hlt : k < bankOfNat s.clearNext := by
        have hne : k.val ≠ (bankOfNat s.clearNext).val := fun e => ‹¬k = _› (Fin.ext e)
        simp only [Fin.lt_def]
        omega
      refine (State.bank_of_banks h3 k).trans ?_
      rw [h.banks k, if_pos hlt]

/-- START_UP_CLEAR keeps the law of the banks (R191). -/
theorem execStartUpClear_banksStand (v : Verify) {s : State} (h : BanksStand s) : Leaves (execStartUpClear v s) BanksStand := by
  unfold execStartUpClear
  dsimp only
  split
  · rename_i hc
    obtain ⟨hh, hn, -, -⟩ := hc
    have hs := h.startingUp hh hn
    have hv := s.bankView_writeVerified s.clearNext Content.cleared v
    rw [leaves_next]
    split
    · rename_i hl
      unfold State.clearBankEnd
      dsimp only
      split
      · rename_i hb
        exact .clearing (hs.next_bank hv hl hb)
      · rename_i hb
        exact .resting (hs.done hv hb)
    · rename_i hl
      exact .clearing (hs.next_within hv hl)
  · exact leaves_next.2 h

/-! ### Every command keeps the law -/

theorem execBankEnd_banksStand {s : State} (h : BanksStand s) : Leaves (execBankEnd s) BanksStand := by
  unfold execBankEnd
  split
  · rename_i hc
    obtain ⟨-, ha, -⟩ := hc
    obtain ⟨b, hb⟩ := h.applies ha
    split
    · rename_i k hk
      rw [hb.bankInProgress hk]
      exact leaves_next.2 hb.bankEnd
    · exact leaves_next.2 h
  · exact leaves_next.2 h

theorem execHoldQueueDrain_banksStand {s : State} (h : BanksStand s) : Leaves (execHoldQueueDrain s) BanksStand := by
  unfold execHoldQueueDrain
  split
  · refine leaves_next.2 (BanksStand.tryStart (h.congr ?_))
    exact State.bankView_lookup _ _
  · exact leaves_next.2 h

theorem execLeaseTimerExpiry_banksStand {s : State} (h : BanksStand s) : Leaves (execLeaseTimerExpiry s) BanksStand := by
  unfold execLeaseTimerExpiry
  split
  · split
    · exact leaves_next.2 (h.discardOpen.congr rfl)
    · exact leaves_next.2 (h.discardOpen.congr rfl)
    · exact leaves_next.2 (h.congr rfl)
    · exact leaves_next.2 (h.congr rfl)
  · exact leaves_next.2 h

theorem exec_banksStand (i : Instr) {s : State} (h : BanksStand s) : Leaves (exec i s) BanksStand := by
  cases i with
  | hardwareReset => exact leaves_next.2 (inReset_banksStand _ _ _ _ _)
  | hardwareResetEnd naddr lmgt => exact execHardwareResetEnd_banksStand naddr lmgt h
  | startUpClear v => exact execStartUpClear_banksStand v h
  | queueFlush => exact leaves_next.2 (takeRequest_banksStand rfl (fun r _ _ _ he => handleQueueFlush_banksStand r he) h)
  | nodeReset => exact leaves_next.2 (takeRequest_banksStand rfl (fun r _ hh hr he => handleNodeReset_banksStand r he hh hr) h)
  | batchOpen => exact leaves_next.2 (takeRequest_banksStand rfl (fun r _ _ hr he => handleBatchOpen_banksStand r he hr) h)
  | batchCommit => exact leaves_next.2 (takeRequest_banksStand rfl (fun r _ _ _ he => handleBatchCommit_banksStand r he) h)
  | batchAbort => exact leaves_next.2 (takeRequest_banksStand rfl (fun r _ _ _ he => handleBatchAbort_banksStand r he) h)
  | leaseTake => exact leaves_next.2 (takeRequest_banksStand rfl (fun r _ _ _ he => handleLeaseTake_banksStand r he) h)
  | leaseGive => exact leaves_next.2 (takeRequest_banksStand rfl (fun r _ _ _ he => handleLeaseGive_banksStand r he) h)
  | applyStart =>
    simp only [exec, execApplyStart]
    split
    · exact leaves_next.2 h
    · exact leaves_next.2 h.tryStart
  | bankEnd => exact execBankEnd_banksStand h
  | holdQueueDrain => exact execHoldQueueDrain_banksStand h
  | leaseTimerExpiry => exact execLeaseTimerExpiry_banksStand h
  | _ => exact Leaves.mono (exec_bankView rfl s) fun _ ht => h.congr ht

/-- Where the banks stand as the law says, at most one is UPDATING or CLEARING (R16). -/
theorem BanksStand.oneBank {s : State} (h : BanksStand s) : OneBankLaw s := by
  have hone (x : BankId) (hx : ∀ k, k ≠ x → s.bank k ≠ .updating ∧ s.bank k ≠ .clearing) : OneBankLaw s := by
    have heq (k : BankId) (hk : s.bank k = .updating ∨ s.bank k = .clearing) : k = x := by
      by_contra hne
      obtain ⟨h1, h2⟩ := hx k hne
      exact hk.elim h1 h2
    exact fun b k hb hk => (heq b hb).trans (heq k hk).symm
  cases h with
  | reset h => exact hone 0 fun k _ => by simp [h.banks k]
  | clearing h =>
    refine hone (bankOfNat s.clearNext) fun k hk => ?_
    rw [h.banks k, if_neg hk]
    split <;> simp
  | resting h => exact hone 0 fun k _ => by simp [h.banks k]
  | applying b h => exact hone b fun k hk => by simp [h.others k hk]

/-- Settles O6: each command keeps the view of the banks, or moves them from one of the ways in which they may stand to
another. -/
theorem everyStepKeepsTheBankLaws : Obligations.EveryStepKeepsTheBankLaws := by
  unfold Obligations.EveryStepKeepsTheBankLaws
  intro s t hs hstep
  have ht : BanksStand t :=
    step_keeps (fun i _ h => exec_banksStand i h) (fun _ _ h => h.congr rfl) ((bankLaws_iff s).1 hs) hstep
  exact ⟨(bankLaws_iff t).2 ht, ht.oneBank⟩

end Sys2Proof.Machine
end

section
namespace Sys2Proof.Machine

/-! ## O7: the law of the records

Records are written by the lookups, the add checks, the edits and the start-up clear. Each writes, at a usable position,
content in which quota and state agree (R9); and a cell is only placed where it can be looked up when its tag is usable. -/

/-! ### What keeps the law -/

/-- The law of the records, with the queues from which cells can be looked up named together. -/
structure RecordsStand (s : State) : Prop where
  table : tableWf s.table = true
  tags : ∀ q, looked q → ∀ e ∈ (s.queue q).entries, e.cell.tag ≠ mgmtTag
  quota : QuotaLaw s

theorem recordLaws_iff (s : State) : RecordLaws s ↔ RecordsStand s := by
  constructor
  · rintro ⟨⟨ht, hh, ha⟩, hq⟩
    refine ⟨ht, fun q hl => ?_, hq⟩
    rcases hl with rfl | ⟨n, rfl⟩
    · exact hh
    · exact ha n
  · rintro ⟨ht, hl, hquota⟩
    exact ⟨⟨ht, hl hq (.inl rfl), fun n => hl (aq n) (.inr ⟨n, rfl⟩)⟩, hquota⟩

theorem RecordsStand.unwritten {s t : State} (h : RecordsStand s) (hu : Unwritten s t) : RecordsStand t where
  table := by rw [hu.table]; exact h.table
  tags q hl e he := h.tags q hl e (hu.entries q hl he)
  quota n := by rw [State.record_of_table hu.table]; exact h.quota n

theorem RecordsStand.quiet {s t : State} (h : RecordsStand s) (hq : Quiet s t) : RecordsStand t :=
  h.unwritten hq.toUnwritten

/-- A record stored at a usable position keeps the law, when its quota and state agree or its check is not good. -/
theorem RecordsStand.setRecord {s : State} (h : RecordsStand s) {n : Nat} (hn : n < 4095) {r : Record}
    (hr : r.good = true → quotaAgrees r.content) : RecordsStand (s.setRecord n r) where
  table := tableWrite_wf r h.table hn
  tags := h.tags
  quota m := by
    by_cases hm : m = n
    · rw [hm, s.record_setRecord_same n r (tableWf_rising h.table)]
      exact hr
    · rw [s.record_setRecord_other r hm]
      exact h.quota m

theorem RecordsStand.writeContent {s : State} (h : RecordsStand s) {n : Nat} (hn : n < 4095) {c : Content}
    (hc : quotaAgrees c) : RecordsStand (s.writeContent n c) := h.setRecord hn fun _ => hc

/-- Entries put on a queue keep the law, when their tags are usable. -/
theorem RecordsStand.setQueue {s : State} (h : RecordsStand s) (q : QueueId) {x : Queue}
    (hx : ∀ e ∈ x.entries, e ∈ (s.queue q).entries ∨ e.cell.tag ≠ mgmtTag) : RecordsStand (s.setQueue q x) where
  table := h.table
  quota := h.quota
  tags k hk e he := by
    rw [s.queue_setQueue] at he
    split at he
    · subst_vars
      exact (hx e he).elim (h.tags k hk e) id
    · exact h.tags k hk e he

theorem RecordsStand.claim {s : State} (h : RecordsStand s) (q : QueueId) {e : Entry} (he : e.cell.tag ≠ mgmtTag) :
    RecordsStand (s.claim q e).1 := by
  rcases s.claim_cases q e with ⟨-, hc⟩ | ⟨-, hc⟩ <;> rw [hc]
  · refine h.setQueue q fun x hx => ?_
    rcases List.mem_append.1 hx with hx | hx
    · exact .inl hx
    · exact .inr (List.mem_singleton.1 hx ▸ he)
  · exact h.setQueue q fun x hx => .inl hx

/-! ### Content in which quota and state agree (R9) -/

theorem quotaAgrees_faulted (c : Content) : quotaAgrees (faultedContent c) := trivial

/-- Whether quota and state agree does not depend on the counts, the revision, the sequence and the stamp. -/
theorem quotaAgrees_congr {c d : Content} (h : quotaAgrees c) (hs : d.state = c.state) (hq : d.quota = c.quota) :
    quotaAgrees d := by
  unfold quotaAgrees at h ⊢
  rwa [hs, hq]

/-- A charge keeps quota and state in agreement: the cell that brings the quota to 0 makes the record SPENT (R25). -/
theorem quotaAgrees_charged {c : Content} {a : Action} (hs : c.state = .opened a) : quotaAgrees (charged c a) := by
  cases hq : c.quota with
  | none => simp [quotaAgrees, charged, hq, hs]
  | some x =>
    by_cases hx : x = 1#16
    · simp [quotaAgrees, charged, hq, hx]
    · have hne : x - 1#16 ≠ 0#16 := fun e => hx (by simpa [BitVec.sub_eq_iff_eq_add] using e)
      simp [quotaAgrees, charged, hq, hx, hs, hne]

theorem quotaAgrees_image {i : Image} {st : RecState} (hv : writeState (byteAt i 3) = some st)
    (hf : writeFieldsValid i = true) : quotaAgrees (contentOfImage i st) := by
  have hquota : (contentOfImage i st).quota ≠ some 0 := by
    simp only [contentOfImage]
    split
    · rename_i hflag
      simp only [writeFieldsValid, hflag, Bool.and_eq_true, Bool.not_true, Bool.false_or, decide_eq_true_eq] at hf
      obtain ⟨-, hq⟩ := hf
      simpa using hq
    · simp
  unfold writeState at hv
  split at hv
  · cases hv; exact hquota
  · split at hv
    · cases hv; trivial
    · cases hv

/-- What an edit names is usable: its tag, the content of a WRITE, and the value of a REFILL (R46, R57, R59). -/
def Edit.usable : Edit → Prop
  | .write t c => t.toNat < 4095 ∧ quotaAgrees c
  | .clear t | .bar t | .unbar t => t.toNat < 4095
  | .refill t v => t.toNat < 4095 ∧ v ≠ 0
  | .clearBank _ => True

theorem tagField_usable {w : BitVec 16} {t : Tag} (h : tagField w = some t) : t.toNat < 4095 := by
  unfold tagField at h
  split at h
  · cases h
    rename_i hw
    simp only [BitVec.extractLsb'_toNat]
    omega
  · cases h

theorem editOf_usable {i : Image} {e : Edit} (h : editOf i = some e) : e.usable := by
  unfold editOf at h
  dsimp only at h
  split at h
  · split at h
    · cases h; trivial
    · cases h
  · split at h
    · cases h
    · rename_i t ht
      have htag := tagField_usable ht
      split at h
      · split at h
        · split at h
          · cases h
            exact ⟨htag, quotaAgrees_image ‹_› ‹_›⟩
          · cases h
        · cases h
      · split at h
        · cases h; exact htag
        · split at h
          · split at h
            · cases h; exact ⟨htag, ‹_›⟩
            · cases h
          · split at h
            · cases h; exact htag
            · split at h
              · cases h; exact htag
              · cases h

/-- The next edit of an apply is that of a valid image of its staging list. -/
theorem State.nextEdit_usable {s : State} {p : Nat} {e : Edit} (h : s.nextEdit = some (p, e)) : e.usable := by
  unfold State.nextEdit at h
  split at h
  · split at h
    · unfold firstEdit at h
      obtain ⟨x, -, hx⟩ := List.exists_of_findSome?_eq_some h
      split at hx
      · split at hx
        · cases hx; exact editOf_usable ‹_›
        · cases hx
      · cases hx
    · cases h
  · cases h

/-! ### Lookups and add checks -/

/-- A tag that is not the management tag has a usable record (R1). -/
theorem toNat_lt_of_ne_mgmt {t : Tag} (h : t ≠ mgmtTag) : t.toNat < 4095 := by
  have hne : t.toNat ≠ 4095 := fun e => h (BitVec.eq_of_toNat_eq e)
  have := t.isLt
  omega

theorem RecordsStand.refuse {s : State} (h : RecordsStand s) {n : Nat} (hn : n < 4095) (hg : (s.record n).good = true) :
    RecordsStand (s.refuse n (s.record n).content) :=
  h.writeContent hn (quotaAgrees_congr (h.quota n hg) rfl rfl)

theorem RecordsStand.lookupFault {s : State} (h : RecordsStand s) {n : Nat} (hn : n < 4095) (c : Content) :
    RecordsStand (s.lookupFault n c) :=
  (h.writeContent hn (c := { faultedContent c with refused := c.refused + 1 }) trivial).unwritten (.of_eq rfl rfl)

theorem RecordsStand.lookup {s : State} (h : RecordsStand s) {c : Cell} (hc : c.tag ≠ mgmtTag) :
    RecordsStand (s.lookup c) := by
  have hn := toNat_lt_of_ne_mgmt hc
  unfold State.lookup
  dsimp only
  split
  · rename_i hg
    split
    · exact h.quiet (Quiet.unknownTag s c)
    iterate 3 exact h.refuse hn hg
    · rename_i a ha
      have hwrite := h.writeContent hn
        (quotaAgrees_congr (d := sequenced (charged (s.record c.tag.toNat).content a) c.seq)
          (quotaAgrees_charged ha) rfl rfl)
      exact hwrite.quiet
        (((Quiet.reportSpent _ _ _).trans (.reportGap _ _ _ _)).trans (.act _ _ _ _))
  · exact h.lookupFault hn _

theorem RecordsStand.holdCell {s : State} (h : RecordsStand s) {c : Cell} (hc : c.tag ≠ mgmtTag) :
    RecordsStand (s.holdCell c) := by
  have hclaim := h.claim hq (e := { cell := c, source := .trunk, marked := false }) hc
  unfold State.holdCell
  split <;> rename_i heq <;> rw [heq] at hclaim <;> exact hclaim.unwritten (.of_eq rfl rfl)

theorem RecordsStand.meetPolicy {s : State} (h : RecordsStand s) {c : Cell} (hc : c.tag ≠ mgmtTag) :
    RecordsStand (s.meetPolicy c) := by
  unfold State.meetPolicy
  split
  · exact h.holdCell hc
  · exact h.holdCell hc
  · split
    · exact h.unwritten (.of_eq rfl rfl)
    · exact h.quiet (Quiet.after (.sendOn _ c) rfl rfl rfl)
  · exact h.unwritten (.of_eq rfl rfl)

theorem RecordsStand.steerTrunk {s : State} {c : Cell} (h : RecordsStand s) (hc : c.tag ≠ mgmtTag) :
    RecordsStand (s.steerTrunk c) := by
  unfold State.steerTrunk
  dsimp only
  split
  · exact h.holdCell hc
  · split
    · exact h.lookup hc
    · exact h.meetPolicy hc
    · exact h
    · exact h

theorem RecordsStand.trunkData {s : State} (h : RecordsStand s) {c : Cell} (hc : c.tag ≠ mgmtTag) :
    RecordsStand (s.trunkData c) := by
  unfold State.trunkData
  split
  · exact RecordsStand.steerTrunk (h.unwritten (.of_eq rfl rfl)) hc
  · split
    · exact h.unwritten (.of_eq rfl rfl)
    · exact h.quiet (Quiet.after (.offer _ _ _ (not_looked_tq _)) rfl rfl rfl)

theorem RecordsStand.trunkArrive {s : State} (h : RecordsStand s) (bytes : List Byte) :
    RecordsStand (s.trunkArrive bytes) := by
  cases hw : trunkWellFormed bytes with
  | false =>
    obtain ⟨f, hf⟩ := s.trunkArrive_of_malformed hw
    rw [hf]
    exact h.unwritten (.of_eq rfl rfl)
  | true =>
    rw [s.trunkArrive_of_wellFormed hw]
    have hs := h.unwritten (t := s.countRx fun k => { k with arrivals := k.arrivals + 1 }) (.of_eq rfl rfl)
    unfold State.onTrunkCell
    split
    · exact hs.unwritten (.of_eq rfl rfl)
    · exact hs.trunkData (tag_of_portWellFormed (portWellFormed_of_trunk hw) ‹_›)
    · exact hs.quiet (Quiet.trunkMgmt _ _)
    · exact hs

theorem RecordsStand.addFails {s : State} (h : RecordsStand s) (n : PortId) {tag : Nat} (ht : tag < 4095) :
    RecordsStand (s.addFails n tag (s.record tag)) := by
  unfold State.addFails
  split
  · rename_i hg
    split
    · exact h.unwritten (.of_eq rfl rfl)
    · exact (h.refuse ht hg).unwritten (.of_eq rfl rfl)
  · exact (h.lookupFault ht _).unwritten (.of_eq rfl rfl)

/-- An add check only passes on an OPEN record (R33). -/
theorem addPasses_opened {r : Content} {n : PortId} {a : Action} (h : addPasses r n = some a) : r.state = .opened a := by
  unfold addPasses at h
  split at h
  · split at h <;> simp_all
  · cases h

theorem RecordsStand.addCharge {s : State} (h : RecordsStand s) {tag : Nat} (ht : tag < 4095) {n : PortId} {a : Action}
    (hp : addPasses (s.record tag).content n = some a) :
    RecordsStand (s.addCharge tag (s.record tag).content a) :=
  (h.writeContent ht (quotaAgrees_congr (d := stamped (charged (s.record tag).content a))
    (quotaAgrees_charged (addPasses_opened hp)) rfl rfl)).quiet
    (Quiet.reportSpent _ _ _)

theorem RecordsStand.addCheck {s : State} (n : PortId) {c : Cell} (h : RecordsStand s) (hc : c.tag ≠ mgmtTag) :
    RecordsStand (s.addCheck n c) := by
  have ht := toNat_lt_of_ne_mgmt hc
  unfold State.addCheck
  dsimp only
  split
  · exact (h.addCharge ht ‹_›).claim (aq n) hc
  · exact h.addFails n ht

theorem RecordsStand.addMeetsPolicy {s : State} (n : PortId) {c : Cell} (h : RecordsStand s) (hc : c.tag ≠ mgmtTag) :
    RecordsStand (s.addMeetsPolicy n c) := by
  have hmarked := h.claim (aq n) (e := { cell := c, source := .tributary n, marked := true }) hc
  have hplain := h.claim (aq n)
    (e := { cell := { c with hop := s.agent.settings.hopLimit }, source := .tributary n, marked := false }) hc
  unfold State.addMeetsPolicy State.offerAdd
  split
  · split <;> rename_i heq <;> rw [heq] at hmarked <;> exact hmarked.unwritten (.of_eq rfl rfl)
  · split <;> rename_i heq <;> rw [heq] at hmarked <;> exact hmarked.unwritten (.of_eq rfl rfl)
  · split <;> rename_i heq <;> rw [heq] at hplain <;> exact hplain.unwritten (.of_eq rfl rfl)
  · exact h.unwritten (.of_eq rfl rfl)

theorem RecordsStand.onPortCell {s : State} (n : PortId) {c : Cell} (h : RecordsStand s)
    (hc : c.kind = .data → c.tag ≠ mgmtTag) : RecordsStand (s.onPortCell n c) := by
  unfold State.onPortCell
  split
  · exact h.unwritten (.of_eq rfl rfl)
  · rename_i hk
    split
    · unfold State.onAddData
      split
      · exact h.unwritten (.of_eq rfl rfl)
      · unfold State.steerAdd
        split
        · exact RecordsStand.addCheck n (h.unwritten (.of_eq rfl rfl)) (hc hk)
        · exact RecordsStand.addMeetsPolicy n (h.unwritten (.of_eq rfl rfl)) (hc hk)
        · exact h.unwritten (.of_eq rfl rfl)
        · exact h.unwritten (.of_eq rfl rfl)
    · exact h.unwritten (.of_eq rfl rfl)
  · split
    · exact h.quiet (Quiet.onPortMgmt s n c)
    · exact h.unwritten (.of_eq rfl rfl)
  · exact h.quiet (Quiet.onLink s n c)

theorem RecordsStand.portArrive {s : State} (h : RecordsStand s) (n : PortId) (bytes : List Byte) :
    RecordsStand (s.portArrive n bytes) := by
  cases hw : portWellFormed bytes with
  | false =>
    obtain ⟨f, hf⟩ := s.portArrive_of_malformed n hw
    rw [hf]
    exact h.unwritten (.of_eq rfl rfl)
  | true =>
    rw [s.portArrive_of_wellFormed n hw]
    exact RecordsStand.onPortCell n (h.unwritten (.of_eq rfl rfl)) (tag_of_portWellFormed hw)

/-- A deferred check keeps the law: the entry that stays at the head keeps its tag (R36). -/
theorem RecordsStand.deferredCheck {s : State} (h : RecordsStand s) (n : PortId) : RecordsStand (s.deferredCheck n) := by
  unfold State.deferredCheck
  split
  · exact h
  · rename_i e rest he
    split
    · have htag : e.cell.tag ≠ mgmtTag := h.tags (aq n) (.inr ⟨n, rfl⟩) e (by rw [he]; exact List.mem_cons_self ..)
      have ht := toNat_lt_of_ne_mgmt htag
      dsimp only
      split
      · refine (h.addCharge ht ‹_›).setQueue (aq n) fun x hx => ?_
        rcases List.mem_cons.1 hx with rfl | hx
        · exact .inr htag
        · exact .inr (h.tags (aq n) (.inr ⟨n, rfl⟩) x (by rw [he]; exact List.mem_cons_of_mem _ hx))
      · exact (h.addFails n ht).quiet (Quiet.dropHead _ _)
    · exact h

theorem RecordsStand.deferredChecks (fuel : Nat) (n : PortId) {s : State} (h : RecordsStand s) :
    RecordsStand (deferredChecks fuel n s) := by
  induction fuel generalizing s with
  | zero => exact h
  | succ fuel ih => exact ih (h.deferredCheck n)

theorem RecordsStand.foldl {α : Type} {f : State → α → State} (hf : ∀ s a, RecordsStand s → RecordsStand (f s a))
    (l : List α) {s : State} (h : RecordsStand s) : RecordsStand (l.foldl f s) := by
  induction l generalizing s with
  | nil => exact h
  | cons a rest ih => exact ih (hf s a h)

theorem RecordsStand.allDeferred {s : State} (h : RecordsStand s) (order : List PortId) :
    RecordsStand (s.allDeferred order) :=
  .foldl (fun _ _ hs => hs.deferredChecks _ _) _ (.foldl (fun _ n hs => hs.deferredCheck n) _ h)

/-! ### The edits and the start-up clear -/

/-- A written and verified record keeps the law: one that fails twice is FAULTED (R14). -/
theorem RecordsStand.writeVerified {s : State} (h : RecordsStand s) {n : Nat} (hn : n < 4095) {c : Content}
    (hc : quotaAgrees c) (v : Verify) : RecordsStand (s.writeVerified n c v).1 := by
  rcases s.writeVerified_cases n c v with hw | ⟨read, -, hw⟩ <;> rw [hw]
  · exact h.writeContent hn hc
  · exact (h.writeContent hn (quotaAgrees_faulted read)).unwritten (.of_eq rfl rfl)

theorem RecordsStand.applyReplace {s : State} (h : RecordsStand s) (p : Nat) {n : Nat} (hn : n < 4095) {c : Content}
    (hc : quotaAgrees c) (v : Verify) : RecordsStand (s.applyReplace p n c v) := by
  have hw := h.writeVerified hn
    (quotaAgrees_congr (d := { c with revision := (s.record n).content.revision + 1 }) hc rfl rfl) v
  exact hw.unwritten (.of_eq rfl rfl)

theorem RecordsStand.applyDecided {s : State} (h : RecordsStand s) (p : Nat) {n : Nat} (hn : n < 4095)
    {decision : Content → Option Content} (hd : ∀ c d, quotaAgrees c → decision c = some d → quotaAgrees d)
    (v : Verify) : RecordsStand (s.applyDecided p n decision v) := by
  unfold State.applyDecided
  dsimp only
  split
  · rename_i hg
    split
    · exact h.unwritten (.of_eq rfl rfl)
    · rename_i c hc
      have hagrees := hd _ _ (h.quota n hg) hc
      have hw := h.writeVerified hn
        (quotaAgrees_congr (d := { c with revision := (s.record n).content.revision + 1 }) hagrees rfl rfl) v
      exact hw.unwritten (.of_eq rfl rfl)
  · exact (h.writeContent hn (quotaAgrees_faulted _)).unwritten (.of_eq rfl rfl)

/-- REFILL gives a quota that is not 0, and makes a SPENT record OPEN (R59). -/
theorem quotaAgrees_refill {value : BitVec 16} (hv : value ≠ 0) (c d : Content) (_ : quotaAgrees c)
    (h : refillContent value c = some d) : quotaAgrees d := by
  unfold refillContent at h
  split at h
  · split at h <;> cases h <;> simp_all [quotaAgrees]
  · cases h

theorem quotaAgrees_bar (c d : Content) (_ : quotaAgrees c) (h : barContent c = some d) : quotaAgrees d := by
  unfold barContent at h
  split at h <;> cases h <;> trivial

/-- UNBAR makes a record SPENT where its quota is 0, and OPEN elsewhere (R61). -/
theorem quotaAgrees_unbar (c d : Content) (_ : quotaAgrees c) (h : unbarContent c = some d) : quotaAgrees d := by
  unfold unbarContent at h
  split at h
  · cases h
    by_cases hq : c.quota = some 0#16 <;> simp [quotaAgrees, hq]
  all_goals cases h

theorem bankTags_usable {b : BankId} {n : Nat} (h : n ∈ bankTags b) : n < 4095 := by
  simp only [bankTags, List.mem_filter, decide_eq_true_eq] at h
  exact h.2

theorem RecordsStand.clearRun (vs : List (UsableTag × Verify)) {tags : List Nat} (ht : ∀ n ∈ tags, n < 4095)
    {s : State} (h : RecordsStand s) (failed : Option Nat) : RecordsStand (clearRun vs tags (s, failed)).1 := by
  induction tags generalizing s failed with
  | nil => exact h
  | cons n rest ih =>
    exact ih (fun m hm => ht m (List.mem_cons_of_mem _ hm))
      (h.writeVerified (ht n (List.mem_cons_self ..))
        (c := { Content.cleared with revision := (s.record n).content.revision + 1 }) trivial _) _

theorem RecordsStand.applyClearBank {s : State} (h : RecordsStand s) (p : Nat) (b : BankId)
    (vs : List (UsableTag × Verify)) : RecordsStand (s.applyClearBank p b vs) := by
  have hrun := h.clearRun vs (fun _ hn => bankTags_usable (b := b) hn) none
  unfold State.applyClearBank
  split <;> rename_i heq <;> rw [heq] at hrun <;> exact hrun.unwritten (.of_eq rfl rfl)

/-! ### The batch, the requests and the resets -/

theorem Unwritten.finishBatch (s : State) (st : Status) (applied : List BankId) (os : List Outcome) :
    Unwritten s (s.finishBatch st applied os) := by
  have hsignal (u : State) : Unwritten u u.batchEndSignal := by
    unfold State.batchEndSignal
    split <;> exact .of_eq rfl rfl
  have hended : Unwritten s s.discardBatch := .of_eq rfl rfl
  unfold State.finishBatch
  refine Unwritten.trans ?_ (hsignal _)
  split
  · exact hended.trans ((RequestFrame.onEntry _ _ _).trans (RequestFrame.offerResponse _ _ _)).quiet.toUnwritten
  · exact hended

theorem Unwritten.tryStart (s : State) : Unwritten s s.tryStart := by
  unfold State.tryStart
  split
  · unfold State.startApply
    split
    · exact .of_eq rfl rfl
    · exact .finishBatch s _ _ _
  · exact .of_eq rfl rfl

theorem Unwritten.discardOpen (s : State) : Unwritten s s.discardOpen := by
  unfold State.discardOpen
  split <;> exact .of_eq rfl rfl

theorem Unwritten.bankEnd (s : State) (b : BankId) : Unwritten s (s.bankEnd b) := by
  have hset : Unwritten s (s.setBank b .serving) := .of_eq rfl rfl
  unfold State.bankEnd
  dsimp only
  split
  · split
    · exact hset.trans (.finishBatch _ _ _ _)
    · exact .of_eq rfl rfl
  · exact hset.trans (.finishBatch _ _ _ _)

theorem Unwritten.nodeReset (s : State) (r : Request) : Unwritten s (s.nodeReset r) := by
  have hagent (t : State) (a : Agent) : Unwritten t { t with agent := a } := .of_eq rfl rfl
  refine Unwritten.trans ?_ (hagent _ _)
  refine Unwritten.trans ?_ (Quiet.clearCounters _).toUnwritten
  refine Unwritten.trans ?_ (Quiet.foldl Quiet.resetPort allFour _).toUnwritten
  exact Unwritten.after (Quiet.foldl Quiet.flush allQueues _).toUnwritten rfl rfl

theorem Unwritten.takeRequest {mine : Byte → Bool} {handler : Request → State → State × Reply}
    (hh : ∀ r e, Unwritten e (handler r e).1) (s : State) : Unwritten s (s.takeRequest mine handler) :=
  takeRequest_keeps (P := Unwritten s) (fun _ _ h k => k.trans h.toUnwritten) (fun r e _ _ h => h.trans (hh r e))
    (.of_eq rfl rfl)

theorem handleQueueFlush_unwritten (r : Request) (s : State) : Unwritten s (handleQueueFlush r s).1 := by
  unfold handleQueueFlush
  split
  · split
    · exact .of_eq rfl rfl
    · dsimp only
      split
      · exact (Quiet.flush s _).toUnwritten.trans (.tryStart _)
      · exact (Quiet.flush s _).toUnwritten
  · exact .of_eq rfl rfl

theorem handleNodeReset_unwritten (r : Request) (s : State) : Unwritten s (handleNodeReset r s).1 := by
  unfold handleNodeReset
  split
  · exact .of_eq rfl rfl
  · exact .nodeReset s r

theorem handleBatchOpen_unwritten (r : Request) (s : State) : Unwritten s (handleBatchOpen r s).1 := by
  unfold handleBatchOpen
  split
  · split
    · exact .of_eq rfl rfl
    · split
      · exact .of_eq rfl rfl
      · split <;> exact .of_eq rfl rfl
  · exact .of_eq rfl rfl

theorem handleBatchCommit_unwritten (r : Request) (s : State) : Unwritten s (handleBatchCommit r s).1 := by
  unfold handleBatchCommit
  split
  · split
    iterate 3 exact .of_eq rfl rfl
    · split
      · exact .of_eq rfl rfl
      · split
        · exact .of_eq rfl rfl
        · split
          · exact .of_eq rfl rfl
          · exact Unwritten.after (.tryStart _) rfl rfl
  · exact .of_eq rfl rfl

theorem handleBatchAbort_unwritten (r : Request) (s : State) : Unwritten s (handleBatchAbort r s).1 := by
  unfold handleBatchAbort
  split
  · split
    · exact .of_eq rfl rfl
    · split
      · exact .of_eq rfl rfl
      · exact .of_eq rfl rfl
      · exact .finishBatch s _ _ _
      · exact .of_eq rfl rfl
  · exact .of_eq rfl rfl

theorem handleLeaseTake_unwritten (r : Request) (s : State) : Unwritten s (handleLeaseTake r s).1 := by
  unfold handleLeaseTake
  split
  · split
    · exact .of_eq rfl rfl
    · split
      · exact .of_eq rfl rfl
      · split
        · exact .of_eq rfl rfl
        · split
          · exact (Quiet.readLease s).toUnwritten
          · split
            · exact .of_eq rfl rfl
            · exact (Unwritten.discardOpen s).trans (.of_eq rfl rfl)
  · exact .of_eq rfl rfl

theorem handleLeaseGive_unwritten (r : Request) (s : State) : Unwritten s (handleLeaseGive r s).1 := by
  unfold handleLeaseGive
  split
  · exact .of_eq rfl rfl
  · split
    · exact .of_eq rfl rfl
    · split <;> exact .of_eq rfl rfl

/-- After hardware reset every queue is empty, with its counters at 0 (R92). -/
theorem inReset_queue_empty (table : Table) (unitNumber : BitVec 32) (past : List OriginPast) (draws : Nat)
    (pending : List Instr) (q : QueueId) :
    let t := State.inReset table unitNumber past draws pending
    (t.queue q).entries = [] ∧ (t.queue q).admitted = 0 ∧ (t.queue q).refused = 0 ∧ (t.queue q).flushed = 0 := by
  fin_cases q <;> exact ⟨rfl, rfl, rfl, rfl⟩

theorem Unwritten.inReset (s : State) (unitNumber : BitVec 32) (past : List OriginPast) (draws : Nat)
    (pending : List Instr) : Unwritten s (State.inReset s.table unitNumber past draws pending) where
  table := rfl
  entries q _ := by
    rw [(inReset_queue_empty s.table unitNumber past draws pending q).1]
    exact List.nil_subset _

theorem Unwritten.clearBankEnd (s : State) (b : BankId) : Unwritten s (s.clearBankEnd b) := by
  unfold State.clearBankEnd
  dsimp only
  split
  · exact .of_eq rfl rfl
  · exact Unwritten.after (Quiet.foldl Quiet.tryAlign allFour _).toUnwritten rfl rfl

theorem execStartUpClear_recordsStand (v : Verify) {s : State} (h : RecordsStand s) :
    Leaves (execStartUpClear v s) RecordsStand := by
  unfold execStartUpClear
  dsimp only
  split
  · rename_i hc
    obtain ⟨-, -, hn, -⟩ := hc
    have hw := h.writeVerified hn (c := Content.cleared) trivial v
    have hnext := hw.unwritten (t := { (s.writeVerified s.clearNext Content.cleared v).1 with
      clearNext := s.clearNext + 1 }) (.of_eq rfl rfl)
    rw [leaves_next]
    split
    · exact hnext.unwritten (.clearBankEnd _ _)
    · exact hnext
  · exact leaves_next.2 h

/-! ### Every command keeps the law -/

/-- The oldest entry taken from the Hold Queue was in it, and the others were too (R39). -/
theorem takeServing_mem {serving : BankId → Bool} {es : List Entry} {e : Entry} {rest : List Entry}
    (h : takeServing serving es = some (e, rest)) : e ∈ es ∧ rest ⊆ es := by
  induction es generalizing rest with
  | nil => cases h
  | cons x xs ih =>
    unfold takeServing at h
    split at h
    · cases h
      exact ⟨List.mem_cons_self .., List.subset_cons_self _ _⟩
    · obtain ⟨y, hy, heq⟩ := Option.map_eq_some_iff.1 h
      obtain ⟨y1, y2⟩ := y
      cases heq
      obtain ⟨hmem, hsub⟩ := ih hy
      exact ⟨List.mem_cons_of_mem _ hmem, List.cons_subset_cons _ hsub⟩

theorem execHoldQueueDrain_recordsStand {s : State} (h : RecordsStand s) :
    Leaves (execHoldQueueDrain s) RecordsStand := by
  unfold execHoldQueueDrain
  split
  · rename_i e rest _ ht
    obtain ⟨hmem, hsub⟩ := takeServing_mem ht
    have hset : RecordsStand (s.setEntries hq rest) := h.setQueue hq fun x hx => .inl (hsub hx)
    have hlook := RecordsStand.lookup (s := (s.setEntries hq rest).countSteer fun k => { k with drained := k.drained + 1 })
      (hset.unwritten (.of_eq rfl rfl)) (h.tags hq (.inl rfl) e hmem)
    exact leaves_next.2 (hlook.unwritten (.tryStart _))
  · exact leaves_next.2 h

theorem execRecordDamage_recordsStand (tag : UsableTag) (content : Content) {s : State} (h : RecordsStand s) :
    Leaves (execRecordDamage tag content s) RecordsStand := by
  unfold execRecordDamage
  split
  · exact leaves_next.2 h
  · exact leaves_next.2 (h.setRecord tag.isLt fun hg => by cases hg)

/-- The commands that write no record and place no cell where it can be looked up. -/
def unwritingCommand : Instr → Bool
  | .hardwareReset | .hardwareResetEnd _ _ | .queueFlush | .nodeReset | .batchOpen | .batchCommit | .batchAbort
  | .leaseTake | .leaseGive | .applyStart | .bankEnd | .leaseTimerExpiry => true
  | i => quietCommand i

theorem exec_unwritten {i : Instr} (h : unwritingCommand i = true) (s : State) : Leaves (exec i s) (Unwritten s) := by
  cases i with
  | hardwareReset => exact leaves_next.2 (.inReset s _ _ _ _)
  | hardwareResetEnd naddr lmgt =>
    simp only [exec, execHardwareResetEnd]
    split <;> exact leaves_next.2 (.of_eq rfl rfl)
  | queueFlush => exact leaves_next.2 (.takeRequest handleQueueFlush_unwritten s)
  | nodeReset => exact leaves_next.2 (.takeRequest handleNodeReset_unwritten s)
  | batchOpen => exact leaves_next.2 (.takeRequest handleBatchOpen_unwritten s)
  | batchCommit => exact leaves_next.2 (.takeRequest handleBatchCommit_unwritten s)
  | batchAbort => exact leaves_next.2 (.takeRequest handleBatchAbort_unwritten s)
  | leaseTake => exact leaves_next.2 (.takeRequest handleLeaseTake_unwritten s)
  | leaseGive => exact leaves_next.2 (.takeRequest handleLeaseGive_unwritten s)
  | applyStart =>
    simp only [exec, execApplyStart]
    split
    · exact leaves_next.2 (.of_eq rfl rfl)
    · exact leaves_next.2 (.tryStart s)
  | bankEnd =>
    simp only [exec, execBankEnd]
    split
    · split
      · exact leaves_next.2 (.bankEnd s _)
      · exact leaves_next.2 (.of_eq rfl rfl)
    · exact leaves_next.2 (.of_eq rfl rfl)
  | leaseTimerExpiry =>
    simp only [exec, execLeaseTimerExpiry]
    split
    · split
      · exact leaves_next.2 ((Unwritten.discardOpen s).trans (.of_eq rfl rfl))
      · exact leaves_next.2 ((Unwritten.discardOpen s).trans (.of_eq rfl rfl))
      · exact leaves_next.2 (.of_eq rfl rfl)
      · exact leaves_next.2 (.of_eq rfl rfl)
    · exact leaves_next.2 (.of_eq rfl rfl)
  | _ => exact Leaves.mono (exec_quiet (by exact h) s) fun _ ht => ht.toUnwritten

theorem exec_recordsStand (i : Instr) {s : State} (h : RecordsStand s) : Leaves (exec i s) RecordsStand := by
  cases i with
  | recordDamage tag content => exact execRecordDamage_recordsStand tag content h
  | startUpClear v => exact execStartUpClear_recordsStand v h
  | holdQueueDrain => exact execHoldQueueDrain_recordsStand h
  | tinArrival bytes =>
    simp only [exec, execTinArrival]
    split
    · exact leaves_next.2 (h.trunkArrive bytes)
    · exact leaves_next.2 h
  | portArrival n bytes =>
    simp only [exec, execPortArrival]
    split
    · exact leaves_next.2 (h.portArrive n bytes)
    · exact leaves_next.2 h
  | toutOpportunity order =>
    simp only [exec, execToutOpportunity]
    split
    · exact leaves_next.2 h
    · exact leaves_next.2 ((h.allDeferred order).quiet (.sendChoice _ _))
  | write v =>
    simp only [exec, execWrite]
    split
    · rename_i p t c he
      obtain ⟨ht, hc⟩ := State.nextEdit_usable he
      exact leaves_next.2 (h.applyReplace p ht hc v)
    · exact leaves_next.2 h
  | clear v =>
    simp only [exec, execClear]
    split
    · rename_i p t he
      exact leaves_next.2 (h.applyReplace p (State.nextEdit_usable he) (c := Content.cleared) trivial v)
    · exact leaves_next.2 h
  | refill v =>
    simp only [exec, execRefill]
    split
    · rename_i p t value he
      obtain ⟨ht, hv⟩ := State.nextEdit_usable he
      exact leaves_next.2 (h.applyDecided p ht (quotaAgrees_refill hv) v)
    · exact leaves_next.2 h
  | bar v =>
    simp only [exec, execBar]
    split
    · rename_i p t he
      exact leaves_next.2 (h.applyDecided p (State.nextEdit_usable he) quotaAgrees_bar v)
    · exact leaves_next.2 h
  | unbar v =>
    simp only [exec, execUnbar]
    split
    · rename_i p t he
      exact leaves_next.2 (h.applyDecided p (State.nextEdit_usable he) quotaAgrees_unbar v)
    · exact leaves_next.2 h
  | clearBank vs =>
    simp only [exec, execClearBank]
    split
    · exact leaves_next.2 (h.applyClearBank _ _ vs)
    · exact leaves_next.2 h
  | _ => exact Leaves.mono (exec_unwritten (by rfl) s) fun _ ht => h.unwritten ht

/-- Settles O7: each command writes, at usable positions, records whose quota and state agree, or writes none. -/
theorem everyStepKeepsTheRecordLaws : Obligations.EveryStepKeepsTheRecordLaws := by
  unfold Obligations.EveryStepKeepsTheRecordLaws
  intro s t hs hstep
  exact (recordLaws_iff t).2 (step_keeps (fun i _ h => exec_recordsStand i h)
    (fun _ _ h => h.unwritten (.of_eq rfl rfl)) ((recordLaws_iff s).1 hs) hstep)

end Sys2Proof.Machine
end

section
namespace Sys2Proof.Machine

/-! ## O13 to O17: hardware reset, damage, and the start-up clear -/

/-- The floors and ceilings after hardware reset, by the kind of queue (R92). -/
theorem inReset_queue_limits (table : Table) (unitNumber : BitVec 32) (past : List OriginPast) (draws : Nat)
    (pending : List Instr) :
    let t := State.inReset table unitNumber past draws pending
    (∀ c : ClassId, (t.queue (tq c)).floor = 16 ∧ (t.queue (tq c)).ceiling = 128) ∧
    ∀ n : PortId, (t.queue (dq n)).floor = 16 ∧ (t.queue (dq n)).ceiling = 64 ∧
      (t.queue (aq n)).floor = 16 ∧ (t.queue (aq n)).ceiling = 16 := by
  refine ⟨fun c => ?_, fun n => ?_⟩
  · fin_cases c <;> exact ⟨rfl, rfl⟩
  · fin_cases n <;> exact ⟨rfl, rfl, rfl, rfl⟩

theorem inReset_port (table : Table) (unitNumber : BitVec 32) (past : List OriginPast) (draws : Nat)
    (pending : List Instr) (n : PortId) : (State.inReset table unitNumber past draws pending).port n = .reset := by
  fin_cases n <;> rfl

/-- Settles O13: the state that hardware reset leaves is written out item by item; only the queues, the banks, the ports and
the rotation pointers are looked at one by one. -/
theorem hardwareResetTakesEveryDefault : Obligations.HardwareResetTakesEveryDefault := by
  unfold Obligations.HardwareResetTakesEveryDefault
  intro s
  obtain ⟨htq, hport⟩ := inReset_queue_limits s.table s.agent.unitNumber (s.agent.past.map OriginPast.atHardwareReset)
    s.draws s.pending
  refine ⟨_, rfl, rfl, rfl, rfl, fun b => ?_, rfl, rfl, rfl, rfl, rfl, rfl, rfl, inReset_queue_empty _ _ _ _ _, htq, hport,
    rfl, rfl, rfl, rfl, rfl, rfl, rfl, rfl, fun c => ?_, fun n => ?_, rfl, rfl, rfl, rfl, rfl, rfl, rfl, rfl, rfl, rfl, rfl,
    rfl, rfl, rfl, rfl, rfl, rfl, rfl, rfl⟩
  · fin_cases b <;> rfl
  · fin_cases c <;> rfl
  · rw [inReset_port]
    exact ⟨rfl, rfl, rfl, rfl, rfl, rfl, rfl, rfl, rfl, rfl, rfl, rfl⟩

/-- Settles O14: with hardware reset held, its end is the one branch that acts. -/
theorem hardwareResetEndSamplesTheStraps : Obligations.HardwareResetEndSamplesTheStraps := by
  unfold Obligations.HardwareResetEndSamplesTheStraps
  intro naddr lmgt s hheld
  simp only [exec, execHardwareResetEnd, hheld, if_true]
  rfl

/-- Settles O15: content that differs is stored with a check that is not good, and a read sees that record alone changed. -/
theorem recordDamageSpoilsTheCheck : Obligations.RecordDamageSpoilsTheCheck := by
  unfold Obligations.RecordDamageSpoilsTheCheck
  intro tag content s hwf hne
  refine ⟨s.setRecord tag.val { content := content, good := false }, ?_, ?_, fun n hn => ?_, rfl⟩
  · simp only [exec, execRecordDamage, hne, if_false]
  · exact s.record_setRecord_same _ _ (tableWf_rising hwf)
  · exact s.record_setRecord_other _ hn

/-! ### The start-up clear -/

/-- The state in which the start-up clear has written its next record and moved on to the next tag (R14, R19, R191). -/
def State.clearedNext (s : State) (v : Verify) : State :=
  { (s.writeVerified s.clearNext Content.cleared v).1 with clearNext := s.clearNext + 1 }

/-- A START_UP_CLEAR that is taken writes its record, and then ends the bank where the record is its last (R191). -/
theorem exec_startUpClear (v : Verify) {s : State} (hh : s.held = false) (hn : s.nodeState = .starting)
    (hlt : s.clearNext < 4095) (hb : s.bank (bankOfNat s.clearNext) = .clearing) :
    exec (.startUpClear v) s = .next
      (if s.clearNext = lastTag (bankOfNat s.clearNext) then (s.clearedNext v).clearBankEnd (bankOfNat s.clearNext)
       else s.clearedNext v) := by
  simp only [exec, execStartUpClear, hh, hn, hlt, hb, and_self, if_true]
  rfl

/-- Settles O16: within a bank the record is not its last, so that no bank ends. -/
theorem startUpClearWritesTheNextRecord : Obligations.StartUpClearWritesTheNextRecord := by
  unfold Obligations.StartUpClearWritesTheNextRecord
  intro v s hh hn hlt hb hmod
  have hlast : s.clearNext ≠ lastTag (bankOfNat s.clearNext) := by
    rw [lastTag, bankOfNat_val (by omega)]
    omega
  refine ⟨s.clearedNext v, ?_, rfl, ?_⟩
  · rw [exec_startUpClear v hh hn (by omega) hb, if_neg hlast]
  · cases v <;> rfl

/-! ### The move to READY (R120, R192) -/

/-- A port that the move to READY brings to ALIGNING: it is DOWN with its signal present. -/
def Port.aligns (p : Port) : Bool := decide (p.state = .down) && p.signal

/-- A port that has entered ALIGNING (R120). -/
def Port.aligned (p : Port) : Port :=
  { p with
    state := .aligning, token := p.token + 1, alignPending := true, resendTimer := true, stallTimer := true,
    stallReported := false }

/-- The report of a port that enters ALIGNING (R127). -/
def alignReport (n : PortId) : Handed :=
  { block := .port n, report := { type := .linkChange, subject := BitVec.ofNat 16 n.val, detail := .code 2 } }

theorem State.setPort_setPort (s : State) (n : PortId) (p q : Port) : (s.setPort n p).setPort n q = s.setPort n q := by
  simp [State.setPort]

theorem State.enterAligning_eq (s : State) (n : PortId) :
    s.enterAligning n = (s.setPort n (s.port n).aligned).hand (.port n)
      { type := .linkChange, subject := BitVec.ofNat 16 n.val, detail := .code 2 } := by
  simp only [State.enterAligning, State.movePort, State.onPort, State.setPort_setPort, State.port_setPort_same]
  rfl

/-- What trying to align a port of a READY node does (R120). -/
theorem State.tryAlign_ready (s : State) (n : PortId) (hr : s.nodeState = .ready) :
    s.tryAlign n = if (s.port n).aligns then { s.setPort n (s.port n).aligned with handed := s.handed ++ [alignReport n] }
      else s := by
  simp only [State.tryAlign, hr, and_true, Port.aligns, Bool.and_eq_true, decide_eq_true_eq, s.enterAligning_eq]
  rfl

/-- The ports of a READY node that are tried one after another: each that aligns is aligned and reports it, in their order. -/
theorem foldl_tryAlign {l : List PortId} (hl : l.Nodup) {s : State} (hr : s.nodeState = .ready) :
    (∀ k, (l.foldl State.tryAlign s).port k =
      if k ∈ l ∧ (s.port k).aligns = true then (s.port k).aligned else s.port k) ∧
    l.foldl State.tryAlign s = { s with
      ports := (l.foldl State.tryAlign s).ports
      handed := s.handed ++ (l.filter fun n => (s.port n).aligns).map alignReport } := by
  induction l generalizing s with
  | nil => simp
  | cons n rest ih =>
    obtain ⟨hn, hrest⟩ := List.nodup_cons.1 hl
    rw [List.foldl_cons, s.tryAlign_ready n hr]
    cases ha : (s.port n).aligns with
    | false =>
      obtain ⟨hports, hstate⟩ := ih hrest hr
      simp only [Bool.false_eq_true, if_false]
      refine ⟨fun k => ?_, ?_⟩
      · rw [hports k]
        by_cases hk : k = n
        · simp [hk, hn, ha]
        · simp [hk]
      · rw [List.filter_cons_of_neg (by simp [ha])]
        exact hstate
    | true =>
      generalize hu : ({ s.setPort n (s.port n).aligned with handed := s.handed ++ [alignReport n] } : State) = u
      have hport (k : PortId) : u.port k = if k = n then (s.port n).aligned else s.port k := by
        rw [← hu]; exact s.port_setPort n k _
      have hr' : u.nodeState = .ready := by rw [← hu]; exact hr
      obtain ⟨hports, hstate⟩ := ih hrest hr'
      simp only [if_true]
      refine ⟨fun k => ?_, ?_⟩
      · rw [hports k, hport k]
        by_cases hk : k = n
        · simp [hk, hn, ha]
        · simp [hk]
      · have hfilter : (rest.filter fun k => (u.port k).aligns) = rest.filter fun k => (s.port k).aligns :=
          List.filter_congr fun k hk => by
            have hne : k ≠ n := fun e => hn (e ▸ hk)
            rw [hport k, if_neg hne]
        rw [List.filter_cons_of_pos (by simp [ha]), List.map_cons]
        refine hstate.trans ?_
        rw [hfilter, ← hu]
        simp

/-! ### The end of a bank of the start-up clear -/

/-- Writing the next record keeps the banks and the ports. -/
theorem State.clearedNext_kept (s : State) (v : Verify) : (s.clearedNext v).banks = s.banks ∧
    (s.clearedNext v).ports = s.ports := by
  cases v <;> exact ⟨rfl, rfl⟩

/-- The end of a bank below bank 3: it becomes SERVING and the next CLEARING, in the same handling (R191). -/
theorem State.clearBankEnd_next (s : State) {b : BankId} (hb : b.val < 3) :
    let t := s.clearBankEnd b
    t.bank b = .serving ∧ t.bank (b + 1) = .clearing ∧ (∀ k, k ≠ b → k ≠ b + 1 → t.bank k = s.bank k) ∧
      t = { s with banks := t.banks } := by
  have heq : s.clearBankEnd b = (s.setBank b .serving).setBank (b + 1) .clearing := by simp [State.clearBankEnd, hb]
  have hne : ∀ k : BankId, k ≠ k + 1 := by decide
  intro t
  refine ⟨?_, ?_, fun k h1 h2 => ?_, ?_⟩ <;> simp only [t, heq]
  · rw [State.bank_setBank_other _ _ (hne b), State.bank_setBank_same]
  · exact State.bank_setBank_same _ _ _
  · rw [State.bank_setBank_other _ _ h2, State.bank_setBank_other _ _ h1]
  · rfl

/-- The end of bank 3: it becomes SERVING, the node READY, and the ports that can align do so (R192). -/
theorem State.clearBankEnd_last (s : State) :
    let t := s.clearBankEnd 3
    t.bank 3 = .serving ∧ (∀ k, k ≠ 3 → t.bank k = s.bank k) ∧
      (∀ n, t.port n = if (s.port n).aligns = true then (s.port n).aligned else s.port n) ∧
      t = { s with
        nodeState := .ready, banks := t.banks, ports := t.ports
        handed := s.handed ++ (allFour.filter fun n => (s.port n).aligns).map alignReport } := by
  obtain ⟨hports, hstate⟩ := foldl_tryAlign (l := allFour) (by decide)
    (s := { s.setBank 3 .serving with nodeState := .ready }) rfl
  have heq : s.clearBankEnd 3 = allFour.foldl State.tryAlign { s.setBank 3 .serving with nodeState := .ready } := rfl
  have hbanks : (s.clearBankEnd 3).banks = (s.setBank 3 .serving).banks := by rw [heq, hstate]
  intro t
  refine ⟨?_, fun k hk => ?_, fun n => ?_, ?_⟩
  · exact (State.bank_of_banks hbanks 3).trans (s.bank_setBank_same 3 _)
  · exact (State.bank_of_banks hbanks k).trans (s.bank_setBank_other _ hk)
  · have hall : n ∈ allFour := by revert n; decide
    refine (hports n).trans ?_
    simp only [hall, true_and]
    rfl
  · refine hstate.trans ?_
    simp only [t, hbanks]
    rfl

/-- Settles O17: at the last record of a bank the written state is that of O16, and the end of the bank follows. -/
theorem startUpClearEndsABank : Obligations.StartUpClearEndsABank := by
  unfold Obligations.StartUpClearEndsABank
  intro v s hh hn hlt hb written
  have hwritten : written = s.clearedNext v := by cases v <;> rfl
  obtain ⟨hbanks, hports⟩ := s.clearedNext_kept v
  refine ⟨fun b hlast hb3 => ?_, fun hlast => ?_⟩
  · have hbank : bankOfNat s.clearNext = b := Fin.ext (by rw [bankOfNat_val hlt]; omega)
    have hl : s.clearNext = lastTag (bankOfNat s.clearNext) := by rw [hbank, lastTag]; omega
    obtain ⟨h1, h2, h3, h4⟩ := (s.clearedNext v).clearBankEnd_next hb3
    refine ⟨(s.clearedNext v).clearBankEnd b, ?_, h1, h2, fun k hk hk' => ?_, ?_⟩
    · rw [exec_startUpClear v hh hn hlt hb, if_pos hl, hbank]
    · exact (h3 k hk hk').trans (State.bank_of_banks hbanks k)
    · rw [hwritten]; exact h4
  · have hbank : bankOfNat s.clearNext = 3 := by rw [hlast]; rfl
    have hl : s.clearNext = lastTag (bankOfNat s.clearNext) := by rw [hbank, hlast, show lastTag 3 = 4094 by decide]
    have hport (n : PortId) : (s.clearedNext v).port n = s.port n := State.port_of_ports hports n
    obtain ⟨h1, h2, h3, h4⟩ := (s.clearedNext v).clearBankEnd_last
    intro aligns
    have haligns (n : PortId) : (s.port n).aligns = true ↔ aligns n := by simp [Port.aligns, aligns]
    refine ⟨(s.clearedNext v).clearBankEnd 3, ?_, h1, fun k hk => ?_, fun n => ⟨fun ha => ?_, fun ha => ?_⟩, ?_⟩
    · rw [exec_startUpClear v hh hn hlt hb, if_pos hl, hbank]
    · exact (h2 k hk).trans (State.bank_of_banks hbanks k)
    · rw [h3 n, hport n, if_pos ((haligns n).2 ha)]
      rfl
    · rw [h3 n, hport n, if_neg (fun h => ha ((haligns n).1 h))]
    · rw [hwritten]
      have hfilter : (allFour.filter fun n => ((s.clearedNext v).port n).aligns) =
          ([0, 1, 2, 3] : List PortId).filter fun n => decide (aligns n) :=
        List.filter_congr fun n _ => by rw [hport n, Bool.eq_iff_iff, haligns n, decide_eq_true_iff]
      rw [hfilter] at h4
      exact h4

end Sys2Proof.Machine
end

section
namespace Sys2Proof.Machine

/-! ## O21: a trunk cell that meets a closed record -/

/-- A tag as the subject of a report. -/
theorem tagReport_toNat (ty : NoticeType) (tag : Tag) (d : Detail) :
    tagReport ty tag.toNat d = { type := ty, subject := tag.setWidth 16, detail := d } := by
  simp [tagReport, BitVec.ofNat_toNat]

/-- A DATA cell that a READY node takes is counted and handed to steering (R98). -/
theorem State.trunkData_ready (s : State) (c : Cell) (hr : s.nodeState = .ready) :
    s.trunkData c = (s.countRx fun k => { k with dataReceived := k.dataReceived + 1 }).steerTrunk c := by
  simp only [State.trunkData, hr]

/-- A cell is looked up when its bank is SERVING and the Hold Queue holds no cell of it (R22). -/
theorem State.steerTrunk_serving (s : State) (c : Cell) (hh : s.holds (bankOf c.tag) = false)
    (hb : s.bank (bankOf c.tag) = .serving) : s.steerTrunk c = s.lookup c := by
  simp only [State.steerTrunk, hh, hb, Bool.false_eq_true, if_false]

/-- A well-formed DATA cell on TIN of a READY node comes to its lookup in the same way (R22, R96, R98). -/
theorem exec_tinArrival_lookup {bytes : List Byte} {c : Cell} {s : State} (ht : TrunkTakes s bytes c)
    (hk : c.kind = .data) (hr : s.nodeState = .ready) (hh : s.holds (bankOf c.tag) = false)
    (hb : s.bank (bankOf c.tag) = .serving) :
    exec (.tinArrival bytes) s = .next (((s.countRx fun k => { k with arrivals := k.arrivals + 1 }).countRx
      fun k => { k with dataReceived := k.dataReceived + 1 }).lookup c) := by
  obtain ⟨hheld, htin, hw, rfl⟩ := ht
  have hcell : (s.countRx fun k => { k with arrivals := k.arrivals + 1 }).onTrunkCell (cellOfBytes bytes) =
      (s.countRx fun k => { k with arrivals := k.arrivals + 1 }).trunkData (cellOfBytes bytes) := by
    simp only [State.onTrunkCell, hk]
  simp only [exec, execTinArrival, hheld, htin, and_self, if_true]
  rw [s.trunkArrive_of_wellFormed hw, hcell]
  refine congrArg _ ((State.trunkData_ready _ _ ?_).trans (State.steerTrunk_serving _ _ ?_ ?_))
  · exact hr
  · exact hh
  · exact hb

/-- A lookup that meets a record whose check is not good (R12, R23). -/
theorem State.lookup_damaged {s : State} {c : Cell} (hg : (s.record c.tag.toNat).good = false) :
    s.lookup c = s.lookupFault c.tag.toNat (s.record c.tag.toNat).content := by
  simp [State.lookup, hg]

/-- A lookup that meets a sound record that is SPENT, BARRED or FAULTED (R23). -/
theorem State.lookup_closed {s : State} {c : Cell} (hg : (s.record c.tag.toNat).good = true)
    (hc : (∃ a, (s.record c.tag.toNat).content.state = .spent a) ∨
      (∃ a, (s.record c.tag.toNat).content.state = .barred a) ∨
      ∃ a, (s.record c.tag.toNat).content.state = .faulted a) :
    s.lookup c = s.refuse c.tag.toNat (s.record c.tag.toNat).content := by
  rcases hc with ⟨a, ha⟩ | ⟨a, ha⟩ | ⟨a, ha⟩ <;> simp [State.lookup, hg, ha]

/-- Settles O21: the cell comes to a lookup, and the record it meets decides which of the two refusals follows. -/
theorem trunkCellMeetsAClosedRecord : Obligations.TrunkCellMeetsAClosedRecord := by
  unfold Obligations.TrunkCellMeetsAClosedRecord
  intro bytes c s ht hk hr hh hb n r s'
  have hexec : exec (.tinArrival bytes) s = .next (s'.lookup c) := exec_tinArrival_lookup ht hk hr hh hb
  refine ⟨fun hg => hexec.trans (congrArg _ ?_), fun hg hc => hexec.trans (congrArg _ ?_)⟩
  · refine (State.lookup_damaged (s := s') hg).trans ?_
    rw [State.lookupFault, lookupDetail, tagReport_toNat]
    rfl
  · exact State.lookup_closed (s := s') hg hc

/-! ## O59: the edit ops -/

/-- What carrying out an edit leaves: the new content with its revision raised, or what a verify that fails twice read back
(R14, R55, log entry 5). -/
def State.carriedOut (s : State) (p n : Nat) (c : Content) (v : Verify) : State :=
  match v with
  | .stands | .rewritten =>
    (s.writeContent n { c with revision := (s.record n).content.revision + 1 }).recordOutcome p n .applied
  | .fails read =>
    ((s.writeContent n (faultedContent read)).hand .updateEngine (tagReport .recordFault n verifyDetail)).recordOutcome
      p n .failed

theorem State.applyReplace_eq (s : State) (p n : Nat) (c : Content) (v : Verify) :
    s.applyReplace p n c v = s.carriedOut p n c v := by
  cases v <;> rfl

/-- An edit that is decided from a sound record is carried out with the content decided on (R56). -/
theorem State.applyDecided_some {s : State} {p n : Nat} {decision : Content → Option Content} {c : Content} (v : Verify)
    (hg : (s.record n).good = true) (hd : decision (s.record n).content = some c) :
    s.applyDecided p n decision v = s.carriedOut p n c v := by
  simp only [State.applyDecided, hg, hd, if_true]
  cases v <;> rfl

/-- An edit that does not apply to a sound record is SKIPPED (R56). -/
theorem State.applyDecided_none {s : State} {p n : Nat} {decision : Content → Option Content} (v : Verify)
    (hg : (s.record n).good = true) (hd : decision (s.record n).content = none) :
    s.applyDecided p n decision v = s.recordOutcome p n .skipped := by
  simp only [State.applyDecided, hg, hd, if_true]

/-- An edit that meets a record with a bad check makes it FAULTED and is SKIPPED (R13). -/
theorem State.applyDecided_damaged {s : State} {p n : Nat} (decision : Content → Option Content) (v : Verify)
    (hg : (s.record n).good = false) :
    s.applyDecided p n decision v = ((s.writeContent n (faultedContent (s.record n).content)).hand .updateEngine
      (tagReport .recordFault n verifyDetail)).recordOutcome p n .skipped := by
  simp only [State.applyDecided, hg, Bool.false_eq_true, if_false]

/-! ### What each op makes of a sound record -/

theorem refillContent_none {value : BitVec 16} {c : Content}
    (h : c.quota = none ∨ c.state = .vacant ∨ ∃ a, c.state = .faulted a) : refillContent value c = none := by
  rcases h with h | h | ⟨a, h⟩ <;> simp [refillContent, h]

theorem refillContent_kept {value : BitVec 16} {c : Content} (hq : c.quota ≠ none)
    (h : (∃ a, c.state = .opened a) ∨ ∃ a, c.state = .barred a) :
    refillContent value c = some { c with quota := some value } := by
  have hq' := Option.isSome_iff_ne_none.2 hq
  rcases h with ⟨a, h⟩ | ⟨a, h⟩ <;> simp [refillContent, h, hq']

theorem refillContent_spent {value : BitVec 16} {c : Content} (hq : c.quota ≠ none) {a : Action} (h : c.state = .spent a) :
    refillContent value c = some { c with quota := some value, state := .opened a } := by
  simp [refillContent, h, Option.isSome_iff_ne_none.2 hq]

theorem barContent_none {c : Content} (h : c.state = .vacant ∨ (∃ a, c.state = .barred a) ∨ ∃ a, c.state = .faulted a) :
    barContent c = none := by
  rcases h with h | ⟨a, h⟩ | ⟨a, h⟩ <;> simp [barContent, h]

theorem barContent_some {c : Content} {a : Action} (h : c.state = .opened a ∨ c.state = .spent a) :
    barContent c = some { c with state := .barred a } := by
  rcases h with h | h <;> simp [barContent, h]

theorem unbarContent_none {c : Content}
    (h : c.state = .vacant ∨ (∃ a, c.state = .opened a) ∨ (∃ a, c.state = .spent a) ∨ ∃ a, c.state = .faulted a) :
    unbarContent c = none := by
  rcases h with h | ⟨a, h⟩ | ⟨a, h⟩ | ⟨a, h⟩ <;> simp [unbarContent, h]

theorem unbarContent_spent {c : Content} {a : Action} (h : c.state = .barred a) (hq : c.quota = some 0) :
    unbarContent c = some { c with state := .spent a } := by
  simp [unbarContent, h, hq]

theorem unbarContent_opened {c : Content} {a : Action} (h : c.state = .barred a) (hq : c.quota ≠ some 0) :
    unbarContent c = some { c with state := .opened a } := by
  simp only [unbarContent, h, if_neg hq]

/-- Settles O59: each op is taken as the next edit, and what it makes of the record decides between the three results. -/
theorem editsDoTheirOps : Obligations.EditsDoTheirOps := by
  unfold Obligations.EditsDoTheirOps
  intro v p tag s n old c outcome fault stored skipped damaged
  have hstored (new : Content) : s.carriedOut p n new v = stored new := by
    cases v with
    | stands => rfl
    | rewritten => rfl
    | fails read => simp only [State.carriedOut, stored, n, tagReport_toNat]; rfl
  have hdamaged (decision : Content → Option Content) (hg : old.good = false) :
      s.applyDecided p n decision v = damaged := by
    rw [State.applyDecided_damaged decision v hg, tagReport_toNat]; rfl
  have hskipped {decision : Content → Option Content} (hg : old.good = true) (hd : decision c = none) :
      s.applyDecided p n decision v = skipped := State.applyDecided_none v hg hd
  have hdone {decision : Content → Option Content} {new : Content} (hg : old.good = true) (hd : decision c = some new) :
      s.applyDecided p n decision v = stored new := (State.applyDecided_some v hg hd).trans (hstored new)
  have hreplace (new : Content) : s.applyReplace p n new v = stored new :=
    (s.applyReplace_eq p n new v).trans (hstored new)
  refine ⟨fun new he => ?_, fun he => ?_, fun value he => ?_, fun he => ?_, fun he => ?_⟩
  · simp only [exec, execWrite, he]
    exact congrArg _ (hreplace new)
  · simp only [exec, execClear, he]
    exact congrArg _ (hreplace Content.cleared)
  · have hexec : exec (.refill v) s = .next (s.applyDecided p n (refillContent value) v) := by
      simp only [exec, execRefill, he]; rfl
    rw [hexec]
    exact ⟨fun hg => congrArg _ (hdamaged _ hg), fun hg h => congrArg _ (hskipped hg (refillContent_none h)),
      fun hg hq h => congrArg _ (hdone hg (refillContent_kept hq h)),
      fun hg hq a h => congrArg _ (hdone hg (refillContent_spent hq h))⟩
  · have hexec : exec (.bar v) s = .next (s.applyDecided p n barContent v) := by
      simp only [exec, execBar, he]; rfl
    rw [hexec]
    exact ⟨fun hg => congrArg _ (hdamaged _ hg), fun hg h => congrArg _ (hskipped hg (barContent_none h)),
      fun hg a h => congrArg _ (hdone hg (barContent_some h))⟩
  · have hexec : exec (.unbar v) s = .next (s.applyDecided p n unbarContent v) := by
      simp only [exec, execUnbar, he]; rfl
    rw [hexec]
    exact ⟨fun hg => congrArg _ (hdamaged _ hg), fun hg h => congrArg _ (hskipped hg (unbarContent_none h)),
      fun hg a h hq => congrArg _ (hdone hg (unbarContent_spent h hq)),
      fun hg a h hq => congrArg _ (hdone hg (unbarContent_opened h hq))⟩

end Sys2Proof.Machine
end

section
namespace Sys2Proof.Machine

/-! ## O22 to O24: trunk cells that meet a vacant record, an open record, or an update -/

/-- The state in which the Trunk Receiver has counted a DATA cell that it hands to steering (R96, R98). -/
def State.dataArrived (s : State) : State :=
  { s with rx := { s.rx with arrivals := s.rx.arrivals + 1, dataReceived := s.rx.dataReceived + 1 } }

/-! ### Claims by their outcome (R79) -/

theorem State.claim_admitted {s : State} {q : QueueId} (e : Entry) (h : s.admits q = true) :
    s.claim q e =
      (s.setQueue q { s.queue q with entries := (s.queue q).entries ++ [e], admitted := (s.queue q).admitted + 1 },
        true) := by
  simp only [State.claim, h, if_true]

theorem State.claim_refused {s : State} {q : QueueId} (e : Entry) (h : s.admits q = false) :
    s.claim q e = (s.setQueue q { s.queue q with refused := (s.queue q).refused + 1 }, false) := by
  simp only [State.claim, h, Bool.false_eq_true, if_false]

/-! ### Sending on, and the unknown-tag action (R24, R27) -/

theorem State.sendOn_living {s : State} {c : Cell} (h : c.hop ≠ 0) :
    s.sendOn c = s.offer (tq c.cls) c.hopped .trunk := if_neg h

theorem State.unknownTag_sink {s : State} (c : Cell) (hu : s.agent.settings.unknownTag = .sink) :
    s.unknownTag c = s.countSteer fun k => { k with unknownSunk := k.unknownSunk + 1 } := by
  simp only [State.unknownTag, hu]

theorem State.unknownTag_expired {s : State} {c : Cell} (hu : s.agent.settings.unknownTag = .pass) (h : c.hop = 0) :
    s.unknownTag c = s.countSteer fun k => { k with expired := k.expired + 1 } := by
  simp only [State.unknownTag, hu, h, if_true]

theorem State.unknownTag_passed {s : State} {c : Cell} (hu : s.agent.settings.unknownTag = .pass) (h : c.hop ≠ 0) :
    s.unknownTag c =
      (s.countSteer fun k => { k with unknownPassed := k.unknownPassed + 1 }).offer (tq c.cls) c.hopped .trunk := by
  simp only [State.unknownTag, hu, if_neg h, State.sendOn_living h]

/-- A lookup that meets a sound VACANT record (R23). -/
theorem State.lookup_vacant {s : State} {c : Cell} (hg : (s.record c.tag.toNat).good = true)
    (hv : (s.record c.tag.toNat).content.state = .vacant) : s.lookup c = s.unknownTag c := by
  simp [State.lookup, hg, hv]

/-- Settles O22: the cell comes to a lookup, which takes the unknown-tag action. -/
theorem trunkCellMeetsAVacantRecord : Obligations.TrunkCellMeetsAVacantRecord := by
  unfold Obligations.TrunkCellMeetsAVacantRecord
  intro bytes c s ht hk hr hh hb hg hv s'
  have hexec : exec (.tinArrival bytes) s = .next (s'.unknownTag c) :=
    (exec_tinArrival_lookup ht hk hr hh hb).trans (congrArg _ (State.lookup_vacant (s := s') hg hv))
  exact ⟨fun hu => hexec.trans (congrArg _ (State.unknownTag_sink (s := s') c hu)),
    fun hu h0 => hexec.trans (congrArg _ (State.unknownTag_expired (s := s') hu h0)),
    fun hu h0 => hexec.trans (congrArg _ (State.unknownTag_passed (s := s') hu h0))⟩

/-! ### The charge and the sequence check of an open record (R25, R26) -/

/-- A sequence check finds a gap (R26). -/
def gapIn (r : Content) (received : Byte) : Bool :=
  match r.expected with
  | some e => decide (e ≠ received)
  | none => false

/-- The report of a charge is handed exactly when the charge brings the remaining quota to 0 (R25). -/
theorem State.reportSpent_eq (s : State) (tag : Tag) (r : Content) :
    s.reportSpent tag.toNat r =
      { s with handed := s.handed ++
          if r.quota = some 1 then
            [{ block := .steering, report := { type := .quotaSpent, subject := tag.setWidth 16, detail := .none } }]
          else [] } := by
  unfold State.reportSpent
  split
  · rw [tagReport_toNat]; rfl
  · simp

/-- A sequence check reports and counts exactly when it finds a gap (R26). -/
theorem State.reportGap_eq (s : State) (tag : Tag) (r : Content) (received : Byte) :
    s.reportGap tag.toNat r received =
      { s with
        steer := { s.steer with seqGaps := if gapIn r received then s.steer.seqGaps + 1 else s.steer.seqGaps }
        handed := s.handed ++
          if gapIn r received then
            [{ block := .steering, report :=
              { type := .seqGap, subject := tag.setWidth 16, detail := .sequences (r.expected.getD 0) received } }]
          else [] } := by
  cases he : r.expected with
  | none => simp [State.reportGap, gapIn, he]
  | some e =>
    by_cases h : e = received
    · simp [State.reportGap, gapIn, he, h]
    · simp only [State.reportGap, gapIn, he, h, if_false, tagReport_toNat, ne_eq, not_false_eq_true, decide_true, if_true]
      rfl

/-- The content of an OPEN record after a charge, with its new state written out (R25). -/
theorem charged_opened {r : Content} {a : Action} (ho : r.state = .opened a) :
    charged r a =
      { r with
        quota := r.quota.map fun q => q - 1
        state := if r.quota = some 1 then .spent a else .opened a
        accepted := r.accepted + 1 } := by
  simp only [charged, ho]

/-- What an OPEN record's charge, count and sequence check leave, before its action (R25, R26). -/
def State.openTaken (s : State) (c : Cell) (r : Content) (a : Action) : State :=
  ((s.writeContent c.tag.toNat (sequenced (charged r a) c.seq)).reportSpent c.tag.toNat r).reportGap c.tag.toNat r c.seq

/-- A lookup that meets a sound OPEN record (R25 to R31). -/
theorem State.lookup_opened {s : State} {c : Cell} {a : Action} (hg : (s.record c.tag.toNat).good = true)
    (ho : (s.record c.tag.toNat).content.state = .opened a) :
    s.lookup c = (s.openTaken c (s.record c.tag.toNat).content a).act c (s.record c.tag.toNat).content a := by
  simp only [State.lookup, hg, ho, if_true]
  rfl

/-- Settles O23: the cell comes to a lookup; the charge and the sequence check leave the state written out, from which the
action goes on. -/
theorem trunkCellMeetsAnOpenRecord : Obligations.TrunkCellMeetsAnOpenRecord := by
  unfold Obligations.TrunkCellMeetsAnOpenRecord
  intro bytes c s a ht hk hr hh hb hg ho r gap charged ring
  have hcharged : s.dataArrived.openTaken c r a = charged := by
    rw [State.openTaken, State.reportGap_eq, State.reportSpent_eq, charged_opened ho]
    rfl
  have hlookup : s.dataArrived.lookup c = charged.act c r a :=
    (State.lookup_opened (s := s.dataArrived) hg ho).trans (congrArg (fun u => u.act c r a) hcharged)
  refine (exec_tinArrival_lookup ht hk hr hh hb).trans (congrArg _ (hlookup.trans ?_))
  cases a <;> rfl

/-! ### Held cells and the hold policy (R22, R37, R38) -/

/-- A well-formed DATA cell on TIN of a READY node is counted and handed to steering (R96, R98). -/
theorem exec_tinArrival_data {bytes : List Byte} {c : Cell} {s : State} (ht : TrunkTakes s bytes c) (hk : c.kind = .data)
    (hr : s.nodeState = .ready) : exec (.tinArrival bytes) s = .next (s.dataArrived.steerTrunk c) := by
  obtain ⟨hheld, htin, hw, rfl⟩ := ht
  have hcell (u : State) : u.onTrunkCell (cellOfBytes bytes) = u.trunkData (cellOfBytes bytes) := by
    simp only [State.onTrunkCell, hk]
  simp only [exec, execTinArrival, hheld, htin, and_self, if_true]
  rw [s.trunkArrive_of_wellFormed hw, hcell]
  exact congrArg _ (State.trunkData_ready (s.countRx _) _ hr)

/-- A cell of a bank of which cells are held joins them (R22). -/
theorem State.steerTrunk_holding {s : State} {c : Cell} (hh : s.holds (bankOf c.tag) = true) :
    s.steerTrunk c = s.holdCell c := by
  simp only [State.steerTrunk, hh, if_true]

/-- A cell of an UPDATING bank of which none is held meets the hold policy (R22). -/
theorem State.steerTrunk_updating {s : State} {c : Cell} (hh : s.holds (bankOf c.tag) = false)
    (hb : s.bank (bankOf c.tag) = .updating) : s.steerTrunk c = s.meetPolicy c := by
  simp only [State.steerTrunk, hh, hb, Bool.false_eq_true, if_false]

theorem State.holdCell_admitted {s : State} (c : Cell) (h : s.admits hq = true) :
    s.holdCell c = State.setQueue { s with steer := { s.steer with held := s.steer.held + 1 } } hq
      { s.queue hq with
        entries := (s.queue hq).entries ++ [{ cell := c, source := .trunk, marked := false }]
        admitted := (s.queue hq).admitted + 1 } := by
  simp only [State.holdCell, State.claim_admitted _ h]
  rfl

theorem State.holdCell_refused {s : State} (c : Cell) (h : s.admits hq = false) :
    s.holdCell c = State.setQueue
      { s with
        steer := { s.steer with holdOverflow := s.steer.holdOverflow + 1 }
        handed := s.handed ++ [{ block := .steering, report :=
          { type := .holdOverflow, subject := s.batch.id.setWidth 16, detail := .none } }] }
      hq { s.queue hq with refused := (s.queue hq).refused + 1 } := by
  simp only [State.holdCell, State.claim_refused _ h]
  rfl

theorem State.meetPolicy_hold {s : State} (c : Cell) (hp : s.batch.policy = some .hold) :
    s.meetPolicy c = s.holdCell c := by
  simp only [State.meetPolicy, hp]

theorem State.meetPolicy_expired {s : State} {c : Cell} (hp : s.batch.policy = some .pass) (h : c.hop = 0) :
    s.meetPolicy c = s.countSteer fun k => { k with expired := k.expired + 1 } := by
  simp only [State.meetPolicy, hp, h, if_true]

theorem State.meetPolicy_passed {s : State} {c : Cell} (hp : s.batch.policy = some .pass) (h : c.hop ≠ 0) :
    s.meetPolicy c =
      (s.countSteer fun k => { k with updatePassed := k.updatePassed + 1 }).offer (tq c.cls) c.hopped .trunk := by
  simp only [State.meetPolicy, hp, if_neg h, State.sendOn_living h]

theorem State.meetPolicy_discarded {s : State} (c : Cell) (hp : s.batch.policy = some .discard) :
    s.meetPolicy c = s.countSteer fun k => { k with updateDiscarded := k.updateDiscarded + 1 } := by
  simp only [State.meetPolicy, hp]

/-- Settles O24: the cell joins the held cells of its bank or meets the policy, and under HOLD the two come to the same. -/
theorem trunkCellMeetsAnUpdate : Obligations.TrunkCellMeetsAnUpdate := by
  unfold Obligations.TrunkCellMeetsAnUpdate
  intro bytes c s ht hk hr s' x updating
  have hexec : exec (.tinArrival bytes) s = .next (s'.steerTrunk c) := exec_tinArrival_data ht hk hr
  have hpolicy (hu : updating) : exec (.tinArrival bytes) s = .next (s'.meetPolicy c) := by
    obtain ⟨hh, hb⟩ := hu
    exact hexec.trans (congrArg _ (State.steerTrunk_updating (s := s') hh hb))
  refine ⟨fun hheld => ?_, fun hu hp => ⟨fun h0 => ?_, fun h0 => ?_⟩, fun hu hp => ?_⟩
  · have hhold : exec (.tinArrival bytes) s = .next (s'.holdCell c) := by
      rcases hheld with hh | ⟨hu, hp⟩
      · exact hexec.trans (congrArg _ (State.steerTrunk_holding (s := s') hh))
      · exact (hpolicy hu).trans (congrArg _ (State.meetPolicy_hold (s := s') c hp))
    exact ⟨fun ha => hhold.trans (congrArg _ (State.holdCell_admitted (s := s') c ha)),
      fun ha => hhold.trans (congrArg _ (State.holdCell_refused (s := s') c ha))⟩
  · exact (hpolicy hu).trans (congrArg _ (State.meetPolicy_expired (s := s') hp h0))
  · exact (hpolicy hu).trans (congrArg _ (State.meetPolicy_passed (s := s') hp h0))
  · exact (hpolicy hu).trans (congrArg _ (State.meetPolicy_discarded (s := s') c hp))

end Sys2Proof.Machine
end

section
namespace Sys2Proof.Machine

/-! ## O29: the drain of the Hold Queue -/

/-- What a lookup or an add check leaves of a record whose check is not good, written out (R12). -/
theorem State.lookupFault_eq (s : State) (t : Tag) (r : Content) :
    s.lookupFault t.toNat r =
      { s with
        table := tableWrite s.table t.toNat
          { content := { r with state := .faulted (stateAction r.state), refused := r.refused + 1 }, good := true }
        handed := s.handed ++ [{ block := .steering, report :=
          { type := .recordFault, subject := t.setWidth 16, detail := .code 1 } }] } := by
  rw [State.lookupFault, lookupDetail, tagReport_toNat]
  rfl

/-- The oldest entry of a SERVING bank is the one that only entries of other banks stand before (R39). -/
theorem takeServing_eq {serving : BankId → Bool} {e : Entry} (before after : List Entry)
    (hb : ∀ x ∈ before, serving (bankOf x.cell.tag) = false) (he : serving (bankOf e.cell.tag) = true) :
    takeServing serving (before ++ e :: after) = some (e, before ++ after) := by
  induction before with
  | nil => simp only [List.nil_append, takeServing, he, if_true]
  | cons x xs ih =>
    rw [List.forall_mem_cons] at hb
    obtain ⟨hx, hxs⟩ := hb
    simp only [List.cons_append, takeServing, hx, Bool.false_eq_true, if_false, ih hxs, Option.map_some]

/-- The drain of the oldest cell of a SERVING bank looks it up, and then may let a WAITING batch begin (R39, R51). -/
theorem exec_holdQueueDrain {s : State} {before after : List Entry} {e : Entry} (hh : s.held = false)
    (hes : (s.queue hq).entries = before ++ e :: after)
    (hb : ∀ x ∈ before, s.bank (bankOf x.cell.tag) ≠ .serving) (he : s.bank (bankOf e.cell.tag) = .serving) :
    exec .holdQueueDrain s = .next ((((s.setEntries hq (before ++ after)).countSteer fun k =>
      { k with drained := k.drained + 1 }).lookup e.cell).tryStart) := by
  have htake : takeServing (fun b => decide (s.bank b = .serving)) (s.queue hq).entries =
      some (e, before ++ after) := by
    rw [hes]
    exact takeServing_eq before after (fun x hx => decide_eq_false (hb x hx)) (decide_eq_true he)
  simp only [exec, execHoldQueueDrain, hh, htake]

/-! ### The start of a WAITING batch (R51, R52, R53) -/

/-- A staging list touches a bank exactly when an image of it is of an edit that falls there (R52). -/
theorem any_fallsIn_iff (staging : List Image) (b : BankId) :
    staging.any (fallsIn b) = true ↔ ∃ i ∈ staging, ∃ e, editOf i = some e ∧ e.bank = b := by
  simp [fallsIn, List.any_eq_true, Option.any_eq_true]

/-- The four in ascending order, as those below one, that one, and those above it. -/
theorem allFour_split (b : Fin 4) :
    ∃ below above, allFour = below ++ b :: above ∧ ∀ k ∈ below, k < b := by
  refine ⟨allFour.take b.val, allFour.drop (b.val + 1), ?_⟩
  revert b
  decide

/-- The first touched bank is the lowest (R52). -/
theorem touchedBanks_lowest {staging : List Image} {b : BankId} (hb : staging.any (fallsIn b) = true)
    (hlow : ∀ k < b, ¬staging.any (fallsIn k) = true) : ∃ rest, touchedBanks staging = b :: rest := by
  obtain ⟨below, above, hsplit, hbelow⟩ := allFour_split b
  have hnone : below.filter (fun k => staging.any (fallsIn k)) = [] :=
    List.filter_eq_nil_iff.2 fun k hk => hlow k (hbelow k hk)
  refine ⟨above.filter fun k => staging.any (fallsIn k), ?_⟩
  simp only [touchedBanks, hsplit, List.filter_append, hnone, List.nil_append, List.filter_cons, hb, if_true]

/-- A batch that is not WAITING, or waits for held cells, does not begin (R51). -/
theorem State.tryStart_waits {u : State} (h : u.batch.state ≠ .waiting ∨ (u.queue hq).entries ≠ []) : u.tryStart = u :=
  if_neg fun ⟨hw, he⟩ => h.elim (· hw) (· he)

/-- A batch that leaves WAITING applies its lowest touched bank first (R53). -/
theorem State.tryStart_begins {u : State} {b : BankId} {rest : List BankId} (hw : u.batch.state = .waiting)
    (he : (u.queue hq).entries = []) (ht : touchedBanks u.batch.staging = b :: rest) :
    u.tryStart = State.setBank { u with batch := { u.batch with state := .applying } } b .updating := by
  simp only [State.tryStart, hw, he, and_self, if_true, State.startApply, ht]

/-- Settles O29: the drain comes to the lookup that a fresh trunk cell meets, and the start of a batch depends on what it
leaves. -/
theorem drainTakesTheOldestServingCell : Obligations.DrainTakesTheOldestServingCell := by
  unfold Obligations.DrainTakesTheOldestServingCell
  refine ⟨fun before after e s hh hes hb he => ?_, fun u => ?_⟩
  · intro n r s' drained
    have hdrain : drained (s'.lookup e.cell) := exec_holdQueueDrain hh hes hb he
    have hlooked {v : State} (hv : s'.lookup e.cell = v) : drained v := hv ▸ hdrain
    exact ⟨fun hg => hlooked ((State.lookup_damaged (s := s') hg).trans (State.lookupFault_eq s' e.cell.tag r)),
      fun hg hc => hlooked (State.lookup_closed (s := s') hg hc),
      fun hg hv => hlooked (State.lookup_vacant (s := s') hg hv), fun _ _ => hdrain⟩
  · intro touches
    refine ⟨State.tryStart_waits, fun hw he b hb hlow => ?_, fun hh => ?_⟩
    · obtain ⟨rest, ht⟩ := touchedBanks_lowest ((any_fallsIn_iff _ b).2 hb)
        fun k hk h => hlow k hk ((any_fallsIn_iff _ k).1 h)
      exact State.tryStart_begins hw he ht
    · simp only [exec, execApplyStart, hh, Bool.false_eq_true, if_false]

end Sys2Proof.Machine
end

section
namespace Sys2Proof.Machine

/-! ## O31: deferred checks, and the add check that they share with arrivals -/

/-! ### The add check (R33, R34) -/

theorem addPasses_of_opened {r : Content} {n : PortId} {a : Action} (ho : r.state = .opened a) (hs : r.source = some n) :
    addPasses r n = some a := by
  simp only [addPasses, ho, hs, if_true]

/-- A record that is not OPEN, or has another source, passes no cell (R33). -/
theorem addPasses_none {r : Content} {n : PortId} (h : (∃ a, r.state = .opened a) → r.source ≠ some n) :
    addPasses r n = none := by
  unfold addPasses
  split
  · rename_i a ho
    exact if_neg (h ⟨a, ho⟩)
  · rfl

theorem addPasses_vacant {r : Content} (n : PortId) (hv : r.state = .vacant) : addPasses r n = none := by
  simp only [addPasses, hv]

theorem State.addFails_vacant {s : State} {r : Record} (n : PortId) (tag : Nat) (hg : r.good = true)
    (hv : r.content.state = .vacant) : s.addFails n tag r = s.addRefused n := by
  simp only [State.addFails, hg, hv, if_true]

theorem State.addFails_refused {s : State} {r : Record} (n : PortId) (tag : Nat) (hg : r.good = true)
    (hv : r.content.state ≠ .vacant) : s.addFails n tag r = (s.refuse tag r.content).addRefused n := by
  simp only [State.addFails, hg, if_true]

theorem State.addFails_damaged {s : State} {r : Record} (n : PortId) (tag : Nat) (hg : r.good = false) :
    s.addFails n tag r = (s.lookupFault tag r.content).addRefused n := by
  simp only [State.addFails, hg, Bool.false_eq_true, if_false]

/-- A failed add check changes no queue. -/
theorem State.queues_addFails (s : State) (n : PortId) (tag : Nat) (r : Record) :
    (s.addFails n tag r).queues = s.queues := by
  unfold State.addFails
  split
  · split <;> rfl
  · rfl

/-- The charge of a passed add check, written out (R25, R34). -/
theorem State.addCharge_eq (s : State) (t : Tag) {r : Content} {a : Action} (ho : r.state = .opened a) :
    s.addCharge t.toNat r a =
      { s with
        table := tableWrite s.table t.toNat
          { content := { r with
              quota := r.quota.map fun q => q - 1
              state := if r.quota = some 1 then .spent a else .opened a
              accepted := r.accepted + 1
              stamp := r.stamp.map fun x => x + 1 }
            good := true }
        handed := s.handed ++
          if r.quota = some 1 then
            [{ block := .steering, report := { type := .quotaSpent, subject := t.setWidth 16, detail := .none } }]
          else [] } := by
  rw [State.addCharge, State.reportSpent_eq, charged_opened ho]
  rfl

/-! ### Deferred checks (R36) -/

/-- The head of an add queue is to be checked: it is marked, and its bank is SERVING (R36). -/
def State.checkable (s : State) (n : PortId) : Prop :=
  ∃ e, (s.queue (aq n)).entries.head? = some e ∧ e.marked = true ∧ s.bank (bankOf e.cell.tag) = .serving

theorem State.deferredCheck_idle {s : State} {n : PortId} (h : ¬s.checkable n) : s.deferredCheck n = s := by
  unfold State.deferredCheck
  split
  · rfl
  · rename_i e rest hes
    exact if_neg fun ⟨hm, hb⟩ => h ⟨e, by rw [hes]; rfl, hm, hb⟩

section
variable {s : State} {n : PortId} {e : Entry} {rest : List Entry} (hes : (s.queue (aq n)).entries = e :: rest)
  (hm : e.marked = true) (hb : s.bank (bankOf e.cell.tag) = .serving)
include hes hm hb

theorem State.deferredCheck_passes {a : Action} (hg : (s.record e.cell.tag.toNat).good = true)
    (hp : addPasses (s.record e.cell.tag.toNat).content n = some a) :
    s.deferredCheck n = (s.addCharge e.cell.tag.toNat (s.record e.cell.tag.toNat).content a).setEntries (aq n)
      ({ e with cell := s.addedCell e.cell (s.record e.cell.tag.toNat).content, marked := false } :: rest) := by
  simp only [State.deferredCheck, hes, hm, hb, and_self, if_true, hg, hp]

theorem State.deferredCheck_fails
    (hf : (s.record e.cell.tag.toNat).good = true → addPasses (s.record e.cell.tag.toNat).content n = none) :
    s.deferredCheck n =
      (s.addFails n e.cell.tag.toNat (s.record e.cell.tag.toNat)).setEntries (aq n) rest := by
  have hrest : (s.addFails n e.cell.tag.toNat (s.record e.cell.tag.toNat)).dropHead (aq n) =
      (s.addFails n e.cell.tag.toNat (s.record e.cell.tag.toNat)).setEntries (aq n) rest := by
    rw [State.dropHead, State.queue_of_queues (s.queues_addFails ..), hes]
    rfl
  rw [← hrest]
  cases hg : (s.record e.cell.tag.toNat).good with
  | false => simp only [State.deferredCheck, hes, hm, hb, and_self, if_true, hg]
  | true => simp only [State.deferredCheck, hes, hm, hb, and_self, if_true, hg, hf hg]

/-- The two ends of a deferred check, as the queues see them: a cell that passes stays at the head without its mark, and
one that fails leaves its add queue (R36). -/
theorem State.deferredCheck_queues :
    (∃ x : Entry, x.marked = false ∧
      (s.deferredCheck n).queues = (s.setEntries (aq n) (x :: rest)).queues) ∨
    (s.deferredCheck n).queues = (s.setEntries (aq n) rest).queues := by
  have hcharge (tag : Nat) (r : Content) (a : Action) : (s.addCharge tag r a).queues = s.queues := by
    unfold State.addCharge State.reportSpent
    split <;> rfl
  by_cases hf : (s.record e.cell.tag.toNat).good = true → addPasses (s.record e.cell.tag.toNat).content n = none
  · right
    rw [State.deferredCheck_fails hes hm hb hf]
    simp only [State.setEntries, State.setQueue, State.queue, State.queues_addFails]
  · left
    obtain ⟨hg, hp⟩ := Classical.not_imp.1 hf
    obtain ⟨a, ha⟩ := Option.ne_none_iff_exists'.1 hp
    refine ⟨{ e with cell := s.addedCell e.cell (s.record e.cell.tag.toNat).content, marked := false }, rfl, ?_⟩
    rw [State.deferredCheck_passes hes hm hb hg ha]
    simp only [State.setEntries, State.setQueue, State.queue, hcharge]

end

/-- A deferred check leaves hardware reset as it was. -/
theorem State.deferredCheck_held (s : State) (n : PortId) : (s.deferredCheck n).held = s.held :=
  congrArg Prod.fst (s.bankView_deferredCheck n)

theorem State.deferredCheck_bank (s : State) (n : PortId) (b : BankId) : (s.deferredCheck n).bank b = s.bank b :=
  State.bank_of_banks (congrArg (·.2.2.1) (s.bankView_deferredCheck n)) b

theorem checkable_congr {s t : State} (hb : ∀ b, t.bank b = s.bank b) {m : PortId}
    (hq : (t.queue (aq m)).entries = (s.queue (aq m)).entries) : t.checkable m ↔ s.checkable m := by
  simp only [State.checkable, hb, hq]

theorem aq_injective {m n : PortId} (h : aq m = aq n) : m = n := by
  simpa [aq, Fin.ext_iff] using h

theorem State.checkable_cases {s : State} {n : PortId} (h : s.checkable n) :
    ∃ e rest, (s.queue (aq n)).entries = e :: rest ∧ e.marked = true ∧ s.bank (bankOf e.cell.tag) = .serving := by
  obtain ⟨e, he, hm, hb⟩ := h
  obtain ⟨rest, hes⟩ := List.head?_eq_some_iff.1 he
  exact ⟨e, rest, hes, hm, hb⟩

/-- A deferred check of one add queue leaves every other as it was. -/
theorem State.deferredCheck_queue_other (s : State) {n : PortId} {q : QueueId} (h : q ≠ aq n) :
    (s.deferredCheck n).queue q = s.queue q := by
  by_cases hc : s.checkable n
  · obtain ⟨e, rest, hes, hm, hb⟩ := State.checkable_cases hc
    rcases State.deferredCheck_queues hes hm hb with ⟨x, -, hx⟩ | hx <;>
      exact (State.queue_of_queues hx q).trans (s.queue_setQueue_other _ h)
  · rw [State.deferredCheck_idle hc]

theorem deferredChecks_idle {s : State} {n : PortId} (h : ¬s.checkable n) (fuel : Nat) : deferredChecks fuel n s = s := by
  induction fuel with
  | zero => rfl
  | succ k ih => rw [deferredChecks, State.deferredCheck_idle h, ih]

/-- The remaining deferred checks of an add queue, as an opportunity makes them in port order (R36). -/
def State.remainingChecks (s : State) (n : PortId) : State := deferredChecks (s.queue (aq n)).occupancy n s

/-- An add queue's remaining checks begin with a single one of its head. -/
theorem State.remainingChecks_first {s : State} {n : PortId} (h : s.checkable n) :
    s.remainingChecks n = (s.deferredCheck n).remainingChecks n := by
  obtain ⟨e, rest, hes, hm, hb⟩ := State.checkable_cases h
  have hocc : (s.queue (aq n)).occupancy = rest.length + 1 := by simp [Queue.occupancy, hes]
  rw [State.remainingChecks, hocc, deferredChecks, State.remainingChecks]
  rcases State.deferredCheck_queues hes hm hb with ⟨x, hx, hqs⟩ | hqs
  · have hentries : ((s.deferredCheck n).queue (aq n)).entries = x :: rest := by
      rw [State.queue_of_queues hqs, State.setEntries, State.queue_setQueue_same]
    have hidle : ¬(s.deferredCheck n).checkable n := by
      rintro ⟨y, hy, hmarked, -⟩
      rw [hentries, List.head?_cons, Option.some.injEq] at hy
      rw [← hy, hx] at hmarked
      cases hmarked
    rw [deferredChecks_idle hidle, deferredChecks_idle hidle]
  · rw [State.queue_of_queues hqs, State.setEntries, State.queue_setQueue_same]
    rfl

theorem foldl_remainingChecks_idle {l : List PortId} {s : State} (h : ∀ m ∈ l, ¬s.checkable m) :
    l.foldl State.remainingChecks s = s := by
  induction l with
  | nil => rfl
  | cons m l ih =>
    rw [List.forall_mem_cons] at h
    obtain ⟨hm, hl⟩ := h
    rw [List.foldl_cons, State.remainingChecks, deferredChecks_idle hm, ih hl]

/-- With no order named, the lowest port whose head is to be checked comes first, as if it had been named (R36). -/
theorem State.allDeferred_lowest {s : State} {n : PortId} (hn : s.checkable n) (hlow : ∀ m < n, ¬s.checkable m) :
    s.allDeferred [] = s.allDeferred [n] := by
  obtain ⟨below, above, hsplit, hbelow⟩ := allFour_split n
  have hidle : ∀ m ∈ below, ¬s.checkable m := fun m hm => hlow m (hbelow m hm)
  have hidle' : ∀ m ∈ below, ¬(s.deferredCheck n).checkable m := fun m hm h => by
    have hq : (s.deferredCheck n).queue (aq m) = s.queue (aq m) :=
      s.deferredCheck_queue_other fun he => (hbelow m hm).ne (aq_injective he)
    exact hidle m hm ((checkable_congr (s.deferredCheck_bank n) (congrArg Queue.entries hq)).1 h)
  change allFour.foldl State.remainingChecks s = allFour.foldl State.remainingChecks (s.deferredCheck n)
  rw [hsplit, List.foldl_append, List.foldl_append, foldl_remainingChecks_idle hidle, foldl_remainingChecks_idle hidle',
    List.foldl_cons, List.foldl_cons, State.remainingChecks_first hn]

/-- An opportunity goes on from the state that its deferred checks leave (R107). -/
theorem exec_toutOpportunity {s : State} (order : List PortId) (hh : s.held = false) :
    exec (.toutOpportunity order) s = .next ((s.allDeferred order).sendChoice (s.allDeferred order).choose) := by
  simp only [exec, execToutOpportunity, hh, Bool.false_eq_true, if_false]

/-- An opportunity makes the first check that its order names, and goes on from there (R36). -/
theorem exec_toutOpportunity_cons {s : State} (n : PortId) (order : List PortId) (hh : s.held = false) :
    exec (.toutOpportunity (n :: order)) s = exec (.toutOpportunity order) (s.deferredCheck n) := by
  rw [exec_toutOpportunity _ hh, exec_toutOpportunity _ ((s.deferredCheck_held n).trans hh)]
  rfl

/-- Settles O31: the first check named is peeled off the opportunity, and its outcome is that of the add check. -/
theorem deferredChecksComeFirst : Obligations.DeferredChecksComeFirst := by
  unfold Obligations.DeferredChecksComeFirst
  intro n s hh checkable
  refine ⟨fun order e rest hes hm hb => ?_, fun hn order => ?_, fun hn hlow => ?_⟩
  · intro tag r refusedBy goesOnFrom
    have hgoes {t : State} (ht : s.deferredCheck n = t) : goesOnFrom t :=
      ht ▸ exec_toutOpportunity_cons n order hh
    have hfails (hf : (s.record tag).good = true → addPasses r n = none) {t : State}
        (ht : (s.addFails n tag (s.record tag)).setEntries (aq n) rest = t) : goesOnFrom t :=
      hgoes ((State.deferredCheck_fails hes hm hb hf).trans ht)
    refine ⟨fun hg hs a ho => hgoes ?_, fun hg hv => hfails (fun _ => addPasses_vacant n hv) ?_,
      fun hg hv hs => hfails (fun _ => addPasses_none hs) ?_,
      fun hg => hfails (fun h => absurd (h.symm.trans hg) (by decide)) ?_⟩
    · rw [State.deferredCheck_passes hes hm hb hg (addPasses_of_opened ho hs), State.addCharge_eq s e.cell.tag ho]
      rfl
    · rw [State.addFails_vacant n tag hg hv]
      rfl
    · rw [State.addFails_refused n tag hg hv]
      rfl
    · rw [State.addFails_damaged n tag hg, s.lookupFault_eq e.cell.tag]
      rfl
  · rw [exec_toutOpportunity_cons n order hh, State.deferredCheck_idle hn]
  · rw [exec_toutOpportunity _ hh, exec_toutOpportunity _ hh, State.allDeferred_lowest hn hlow]

end Sys2Proof.Machine
end

section
namespace Sys2Proof.Machine

/-! ## O35 and O36: arrivals of add cells -/

/-! ### Room on the add queues (R34, R81) -/

theorem State.unused_le_reserve (s : State) (q : QueueId) : (s.queue q).unused ≤ s.reserve := by
  refine List.le_sum_of_mem (List.mem_map_of_mem ?_)
  simp [State.queue]

/-- While a port has add credit, the laws leave room for its cell on its add queue (R34, R81). -/
theorem QueueLaws.admits_add {s : State} (h : QueueLaws s) {n : PortId} (hc : 0 < (s.port n).addCredits) :
    s.admits (aq n) = true := by
  obtain ⟨-, hreserve, -, hadd, -, -⟩ := h
  have hbelow : (s.queue (aq n)).occupancy < (s.queue (aq n)).floor := by
    have := hadd n
    omega
  refine s.admits_below_floor ?_ hbelow
  have hunused : 0 < (s.queue (aq n)).unused := Nat.sub_pos_of_lt hbelow
  have hle := s.unused_le_reserve (aq n)
  unfold ReserveLaw at hreserve
  omega

/-! ### The credit check of an arrival (R130) -/

/-- A port whose device has spent an add credit on a DATA cell (R128, R130). -/
def Port.addTaken (p : Port) : Port :=
  { p with
    addCredits := p.addCredits - 1
    ctr := { p.ctr with arrivals := p.ctr.arrivals + 1, dataReceived := p.ctr.dataReceived + 1 } }

theorem State.onPort_setPort (s : State) (n : PortId) (p : Port) (f : Port → Port) :
    (s.setPort n p).onPort n f = s.setPort n (f p) := by
  rw [State.onPort, State.port_setPort_same, State.setPort_setPort]

theorem State.addRefused_setPort (s : State) (n : PortId) (p : Port) :
    (s.setPort n p).addRefused n = s.setPort n { p with ctr := { p.ctr with addRefused := p.ctr.addRefused + 1 } } := by
  rw [State.addRefused, State.countPort, State.onPort_setPort]

/-- A well-formed DATA cell on a port that is UP is counted and comes to the credit check (R128, R129). -/
theorem exec_portArrival_data {n : PortId} {bytes : List Byte} {c : Cell} {s : State} (ht : PortTakes s n bytes c)
    (hk : c.kind = .data) (hu : (s.port n).state = .up) :
    exec (.portArrival n bytes) s = .next ((s.portCounted n).onAddData n c) := by
  obtain ⟨htakes, hw, rfl⟩ := ht
  have hup : ((s.portCounted n).port n).state = .up := by
    rw [State.portCounted, State.countPort, State.port_onPort_same]
    exact hu
  simp only [exec, execPortArrival, htakes, if_true, s.portArrive_of_wellFormed n hw, State.onPortCell, hk, hup]

theorem State.onAddData_violation {s : State} {n : PortId} (c : Cell) (h : (s.port n).addCredits = 0) :
    (s.portCounted n).onAddData n c = s.setPort n { s.port n with ctr := { (s.port n).ctr with
      arrivals := (s.port n).ctr.arrivals + 1
      creditViolations := (s.port n).ctr.creditViolations + 1 } } := by
  have hzero : ((s.portCounted n).port n).addCredits = 0 := by
    rw [State.portCounted, State.countPort, State.port_onPort_same]
    exact h
  rw [State.onAddData, if_pos hzero]
  exact s.onPort_setPort n _ _

theorem State.onAddData_taken {s : State} {n : PortId} (c : Cell) (h : 0 < (s.port n).addCredits) :
    (s.portCounted n).onAddData n c = (s.setPort n (s.port n).addTaken).steerAdd n c := by
  have hpos : ((s.portCounted n).port n).addCredits ≠ 0 := by
    rw [State.portCounted, State.countPort, State.port_onPort_same]
    exact h.ne'
  rw [State.onAddData, if_neg hpos]
  exact congrArg (State.steerAdd · n c) (s.onPort_setPort n _ _)

/-! ### What steering makes of an add cell (R32 to R35) -/

theorem State.steerAdd_serving {s : State} (n : PortId) {c : Cell} (hb : s.bank (bankOf c.tag) = .serving) :
    s.steerAdd n c = s.addCheck n c := by
  simp only [State.steerAdd, hb]

theorem State.steerAdd_updating {s : State} (n : PortId) {c : Cell} (hb : s.bank (bankOf c.tag) = .updating) :
    s.steerAdd n c = s.addMeetsPolicy n c := by
  simp only [State.steerAdd, hb]

theorem State.addCheck_passes {s : State} {n : PortId} {c : Cell} {a : Action}
    (hg : (s.record c.tag.toNat).good = true) (hp : addPasses (s.record c.tag.toNat).content n = some a) :
    s.addCheck n c = (s.addCharge c.tag.toNat (s.record c.tag.toNat).content a).offer (aq n)
      (s.addedCell c (s.record c.tag.toNat).content) (.tributary n) := by
  simp only [State.addCheck, hg, hp]
  rfl

theorem State.addCheck_fails {s : State} {n : PortId} {c : Cell}
    (hf : (s.record c.tag.toNat).good = true → addPasses (s.record c.tag.toNat).content n = none) :
    s.addCheck n c = s.addFails n c.tag.toNat (s.record c.tag.toNat) := by
  cases hg : (s.record c.tag.toNat).good with
  | false => simp only [State.addCheck, hg]
  | true => simp only [State.addCheck, hg, hf hg]

/-- Settles O35: the credit check comes first, then the add check, whose cell the laws leave room for. -/
theorem addCellsMeetTheAddCheck : Obligations.AddCellsMeetTheAddCheck := by
  unfold Obligations.AddCellsMeetTheAddCheck
  intro n bytes c s ht hk hu p k tag r taken refusedBy x added
  have hexec := exec_portArrival_data ht hk hu
  refine ⟨fun h0 => hexec.trans (congrArg _ (State.onAddData_violation c h0)), fun hc hb => ?_⟩
  have hcheck : exec (.portArrival n bytes) s = .next ((s.setPort n taken).addCheck n c) :=
    hexec.trans (congrArg _ ((State.onAddData_taken c hc).trans (State.steerAdd_serving (s := s.setPort n taken) n hb)))
  have hfails (hf : (s.record tag).good = true → addPasses r n = none) {t : State}
      (htt : (s.setPort n taken).addFails n tag (s.record tag) = t) : exec (.portArrival n bytes) s = .next t :=
    hcheck.trans (congrArg _ ((State.addCheck_fails (s := s.setPort n taken) hf).trans htt))
  refine ⟨fun hg hs a ho => ?_, fun hg hv => hfails (fun _ => addPasses_vacant n hv) ?_,
    fun hg hv hs => hfails (fun _ => addPasses_none hs) ?_,
    fun hg => hfails (fun h => absurd (h.symm.trans hg) (by decide)) ?_⟩
  · intro passed
    have hpassed : exec (.portArrival n bytes) s = .next (passed.offer (aq n) added (.tributary n)) := by
      refine hcheck.trans (congrArg _ ?_)
      rw [State.addCheck_passes (s := s.setPort n taken) hg (addPasses_of_opened ho hs), State.record_setPort,
        State.addCharge_eq _ c.tag ho]
      rfl
    refine ⟨hpassed, fun hlaws => hpassed.trans (congrArg _ ?_)⟩
    rw [State.offer, State.claim_admitted (s := passed) _ (hlaws.admits_add hc)]
    rfl
  · rw [State.addFails_vacant n tag hg hv]
    exact s.addRefused_setPort n taken
  · rw [State.addFails_refused n tag hg hv]
    exact (s.writeContent tag _).addRefused_setPort n taken
  · rw [State.addFails_damaged n tag hg]
    refine ((s.lookupFault tag r).addRefused_setPort n taken).trans ?_
    rw [s.lookupFault_eq c.tag]
    rfl

/-! ### The hold policy of an add cell (R35) -/

section
variable {s : State} {n : PortId} (c : Cell) (ha : s.admits (aq n) = true)
include ha

theorem State.addMeetsPolicy_hold (hp : s.batch.policy = some .hold) :
    s.addMeetsPolicy n c =
      State.setQueue { s with steer := { s.steer with addDeferred := s.steer.addDeferred + 1 } } (aq n)
        { s.queue (aq n) with
          entries := (s.queue (aq n)).entries ++ [{ cell := c, source := .tributary n, marked := true }]
          admitted := (s.queue (aq n)).admitted + 1 } := by
  simp only [State.addMeetsPolicy, hp, State.offerAdd, State.claim_admitted _ ha]
  rfl

theorem State.addMeetsPolicy_pass (hp : s.batch.policy = some .pass) :
    s.addMeetsPolicy n c =
      State.setQueue { s with steer := { s.steer with addUnchecked := s.steer.addUnchecked + 1 } } (aq n)
        { s.queue (aq n) with
          entries := (s.queue (aq n)).entries ++
            [{ cell := { c with hop := s.agent.settings.hopLimit }, source := .tributary n, marked := false }]
          admitted := (s.queue (aq n)).admitted + 1 } := by
  simp only [State.addMeetsPolicy, hp, State.offerAdd, State.claim_admitted _ ha]
  rfl

end

theorem State.addMeetsPolicy_discard {s : State} (n : PortId) (c : Cell) (hp : s.batch.policy = some .discard) :
    s.addMeetsPolicy n c = s.addRefused n := by
  simp only [State.addMeetsPolicy, hp]

/-- Settles O36: the credit that the cell spends leaves it room on its add queue, so that the policy alone decides. -/
theorem addCellsMeetTheHoldPolicy : Obligations.AddCellsMeetTheHoldPolicy := by
  unfold Obligations.AddCellsMeetTheHoldPolicy
  intro n bytes c s ht hk hu hc hb hlaws p x taken queued
  have ha : (s.setPort n taken).admits (aq n) = true := hlaws.admits_add hc
  have hexec : exec (.portArrival n bytes) s = .next ((s.setPort n taken).addMeetsPolicy n c) :=
    (exec_portArrival_data ht hk hu).trans (congrArg _
      ((State.onAddData_taken c hc).trans (State.steerAdd_updating (s := s.setPort n taken) n hb)))
  refine ⟨fun hp => hexec.trans (congrArg _ ?_), fun hp => hexec.trans (congrArg _ ?_),
    fun hp => hexec.trans (congrArg _ ?_)⟩
  · exact State.addMeetsPolicy_hold (s := s.setPort n taken) c ha hp
  · exact State.addMeetsPolicy_pass (s := s.setPort n taken) c ha hp
  · exact (State.addMeetsPolicy_discard (s := s.setPort n taken) n c hp).trans (s.addRefused_setPort n taken)

end Sys2Proof.Machine
end

section
namespace Sys2Proof.Machine

/-! ## O5: the laws of the batch, the lease, the origin table and the settings

The laws look at `ownView` alone. All that happens to cells, records, ports and notices keeps the view; the requests and the
commands of the batch that change it are looked at one by one. -/

/-! ### What the laws look at -/

/-- All that the laws of O5 look at: the batch state with its staging list and the commit it owes, the lease, the origin table
and the settings. -/
def State.ownView (s : State) :
    BatchState × List Image × Option (Origin × BitVec 16) × Lease × List OriginEntry × Settings :=
  (s.batch.state, s.batch.staging, s.batch.commit, s.lease, s.agent.origins, s.agent.settings)

/-- What the frame of every request leaves alone, with the lease and the origin table, is the view. -/
theorem State.ownView_of_frame {s t : State} (h : RequestFrame s t) (hl : t.lease = s.lease)
    (ho : t.agent.origins = s.agent.origins) : t.ownView = s.ownView := by
  simp only [State.ownView, h.batch, h.settings, hl, ho]

theorem foldl_ownView {α : Type} {f : State → α → State} (h : ∀ s a, (f s a).ownView = s.ownView) (l : List α) (s : State) :
    (l.foldl f s).ownView = s.ownView := by
  induction l generalizing s with
  | nil => rfl
  | cons a rest ih => exact (ih _).trans (h s a)

/-! ### Queues, counters and records -/

@[simp] theorem State.ownView_countSteer (s : State) (f : SteerCounters → SteerCounters) :
    (s.countSteer f).ownView = s.ownView := rfl

@[simp] theorem State.ownView_countRx (s : State) (f : RxCounters → RxCounters) : (s.countRx f).ownView = s.ownView := rfl

@[simp] theorem State.ownView_countAgent (s : State) (f : AgentCounters → AgentCounters) :
    (s.countAgent f).ownView = s.ownView := rfl

@[simp] theorem State.ownView_countPort (s : State) (n : PortId) (f : PortCounters → PortCounters) :
    (s.countPort n f).ownView = s.ownView := rfl

@[simp] theorem State.ownView_onPort (s : State) (n : PortId) (f : Port → Port) : (s.onPort n f).ownView = s.ownView := rfl

@[simp] theorem State.ownView_hand (s : State) (b : Block) (r : Report) : (s.hand b r).ownView = s.ownView := rfl

@[simp] theorem State.ownView_flush (s : State) (q : QueueId) : (s.flush q).ownView = s.ownView := rfl

@[simp] theorem State.ownView_setEntries (s : State) (q : QueueId) (es : List Entry) :
    (s.setEntries q es).ownView = s.ownView := rfl

@[simp] theorem State.ownView_setBank (s : State) (b : BankId) (x : BankState) : (s.setBank b x).ownView = s.ownView := rfl

@[simp] theorem State.ownView_writeContent (s : State) (n : Nat) (c : Content) : (s.writeContent n c).ownView = s.ownView := rfl

@[simp] theorem State.ownView_claim (s : State) (q : QueueId) (e : Entry) : (s.claim q e).1.ownView = s.ownView := by
  simp [State.ownView]

@[simp] theorem State.ownView_offer (s : State) (q : QueueId) (c : Cell) (x : Source) : (s.offer q c x).ownView = s.ownView :=
  s.ownView_claim q _

@[simp] theorem State.ownView_offerAdd (s : State) (n : PortId) (c : Cell) (m : Bool) :
    (s.offerAdd n c m).1.ownView = s.ownView := s.ownView_claim _ _

@[simp] theorem State.ownView_writeVerified (s : State) (n : Nat) (c : Content) (v : Verify) :
    (s.writeVerified n c v).1.ownView = s.ownView := by
  cases v <;> rfl

/-! ### Steering -/

@[simp] theorem State.ownView_sendOn (s : State) (c : Cell) : (s.sendOn c).ownView = s.ownView := by
  unfold State.sendOn
  split <;> simp

@[simp] theorem State.ownView_act (s : State) (c : Cell) (r : Content) (a : Action) : (s.act c r a).ownView = s.ownView := by
  cases a <;> simp [State.act]

@[simp] theorem State.ownView_unknownTag (s : State) (c : Cell) : (s.unknownTag c).ownView = s.ownView := by
  unfold State.unknownTag
  split
  · split <;> simp
  · rfl

@[simp] theorem State.ownView_reportSpent (s : State) (n : Nat) (c : Content) : (s.reportSpent n c).ownView = s.ownView := by
  unfold State.reportSpent
  split <;> rfl

@[simp] theorem State.ownView_reportGap (s : State) (n : Nat) (c : Content) (x : Byte) :
    (s.reportGap n c x).ownView = s.ownView := by
  unfold State.reportGap
  split
  · split <;> rfl
  · rfl

@[simp] theorem State.ownView_lookup (s : State) (c : Cell) : (s.lookup c).ownView = s.ownView := by
  unfold State.lookup
  dsimp only
  split
  · split
    · exact s.ownView_unknownTag c
    iterate 3 rfl
    · simp
  · rfl

@[simp] theorem State.ownView_holdCell (s : State) (c : Cell) : (s.holdCell c).ownView = s.ownView := by
  have h := s.ownView_claim hq { cell := c, source := .trunk, marked := false }
  unfold State.holdCell
  split <;> rename_i hc <;> rw [hc] at h <;> exact h

@[simp] theorem State.ownView_meetPolicy (s : State) (c : Cell) : (s.meetPolicy c).ownView = s.ownView := by
  unfold State.meetPolicy
  split
  · exact s.ownView_holdCell c
  · exact s.ownView_holdCell c
  · split <;> simp
  · rfl

@[simp] theorem State.ownView_steerTrunk (s : State) (c : Cell) : (s.steerTrunk c).ownView = s.ownView := by
  unfold State.steerTrunk
  dsimp only
  split
  · exact s.ownView_holdCell c
  · split <;> simp

@[simp] theorem State.ownView_addFails (s : State) (n : PortId) (tag : Nat) (r : Record) :
    (s.addFails n tag r).ownView = s.ownView := by
  unfold State.addFails
  split
  · split <;> rfl
  · rfl

@[simp] theorem State.ownView_addCharge (s : State) (tag : Nat) (r : Content) (a : Action) :
    (s.addCharge tag r a).ownView = s.ownView := State.ownView_reportSpent _ _ _

theorem State.ownView_addCheck (s : State) (n : PortId) (c : Cell) : (s.addCheck n c).ownView = s.ownView := by
  unfold State.addCheck
  dsimp only
  split <;> simp

theorem State.ownView_addMeetsPolicy (s : State) (n : PortId) (c : Cell) : (s.addMeetsPolicy n c).ownView = s.ownView := by
  have h {x : Cell} {m : Bool} {p : State × Bool} (hp : s.offerAdd n x m = p) : p.1.ownView = s.ownView :=
    hp ▸ s.ownView_offerAdd n x m
  unfold State.addMeetsPolicy
  split
  iterate 3 split <;> rename_i hc <;> exact h hc
  · rfl

@[simp] theorem State.ownView_steerAdd (s : State) (n : PortId) (c : Cell) : (s.steerAdd n c).ownView = s.ownView := by
  unfold State.steerAdd
  split
  · exact s.ownView_addCheck n c
  · exact s.ownView_addMeetsPolicy n c
  iterate 2 rfl

theorem State.ownView_deferredCheck (s : State) (n : PortId) : (s.deferredCheck n).ownView = s.ownView := by
  unfold State.deferredCheck
  split
  · rfl
  · split
    · dsimp only
      split
      · simp
      · exact s.ownView_addFails _ _ _
    · rfl

theorem ownView_deferredChecks (fuel : Nat) (n : PortId) (s : State) : (deferredChecks fuel n s).ownView = s.ownView := by
  induction fuel generalizing s with
  | zero => rfl
  | succ fuel ih => exact (ih _).trans (s.ownView_deferredCheck n)

theorem State.ownView_allDeferred (s : State) (order : List PortId) : (s.allDeferred order).ownView = s.ownView := by
  have hfirst : (order.foldl State.deferredCheck s).ownView = s.ownView := foldl_ownView State.ownView_deferredCheck order s
  unfold State.allDeferred
  generalize order.foldl State.deferredCheck s = t at hfirst
  rw [← hfirst]
  exact foldl_ownView (fun u n => ownView_deferredChecks _ n u) allFour t

/-! ### The Agent's bookkeeping and the Notice Unit -/

@[simp] theorem ownView_settleHands (hs : List HandCell) (s : State) : (settleHands hs s).ownView = s.ownView := by
  obtain ⟨hf, ho, hl, -⟩ := settleHands_frame hs s
  exact State.ownView_of_frame hf hl ho

@[simp] theorem State.ownView_giveAgent (s : State) (m : HandCell) : (s.giveAgent m).ownView = s.ownView :=
  ownView_settleHands _ s

theorem State.ownView_offerResponse (s : State) (o : Origin) (c : Cell) : (s.offerResponse o c).ownView = s.ownView :=
  State.ownView_of_frame (RequestFrame.offerResponse s o c) (s.offerResponse_lease o c)
    (congrArg Agent.origins (s.offerResponse_agent o c))

theorem State.ownView_offerNotice (s : State) (o : Origin) (e : NoticeEntry) : (s.offerNotice o e).ownView = s.ownView := by
  obtain ⟨hf, ha, hl, -⟩ := s.offerNotice_frame o e
  exact State.ownView_of_frame hf hl (by rw [ha])

theorem State.ownView_resendNotice (s : State) (o : Origin) (e : NoticeEntry) (k : Nat) :
    (s.resendNotice o e k).ownView = s.ownView := by
  obtain ⟨hf, ha, hl⟩ := s.resendNotice_frame o e k
  exact State.ownView_of_frame hf hl (by rw [ha])

theorem State.ownView_sendOldest (s : State) : s.sendOldest.ownView = s.ownView := by
  unfold State.sendOldest
  split
  · split
    · rfl
    · exact s.ownView_offerNotice _ _
  · rfl

theorem State.ownView_takeReport (s : State) (r : Report) : (s.takeReport r).ownView = s.ownView := by
  unfold State.takeReport
  dsimp only
  split
  · rfl
  · split
    · exact State.ownView_sendOldest _
    · rfl

theorem State.ownView_accountLost (s : State) : s.accountLost.ownView = s.ownView := by
  unfold State.accountLost
  split
  · rfl
  · split <;> rfl

theorem State.ownView_takeAck (s : State) (o : Origin) (number : BitVec 16) : (s.takeAck o number).ownView = s.ownView := by
  unfold State.takeAck
  dsimp only
  split
  · split
    · exact (State.ownView_sendOldest _).trans (State.ownView_accountLost _)
    · rfl
  · rfl

theorem State.ownView_destinationSelected (s : State) : s.destinationSelected.ownView = s.ownView := by
  unfold State.destinationSelected
  dsimp only
  split
  · rfl
  · split
    · exact State.ownView_resendNotice _ _ _ _
    · exact State.ownView_sendOldest _

theorem State.ownView_takeResetReports (s : State) : s.takeResetReports.ownView = s.ownView :=
  foldl_ownView (fun t (h : Handed) => t.ownView_takeReport h.report) _ _

theorem State.ownView_contact (s : State) (o : Origin) : (s.contact o).ownView = s.ownView := by
  obtain ⟨hf, ha, hl⟩ := s.contact_frame o
  exact State.ownView_of_frame hf hl (by rw [ha])

/-! ### The ports -/

@[simp] theorem State.ownView_movePort (s : State) (n : PortId) (x : PortState) : (s.movePort n x).ownView = s.ownView := rfl

@[simp] theorem State.ownView_enterAligning (s : State) (n : PortId) : (s.enterAligning n).ownView = s.ownView := rfl

theorem State.ownView_tryAlign (s : State) (n : PortId) : (s.tryAlign n).ownView = s.ownView := by
  unfold State.tryAlign
  split <;> rfl

@[simp] theorem State.ownView_leaveUp (s : State) (n : PortId) : (s.leaveUp n).ownView = s.ownView := by
  unfold State.leaveUp
  dsimp only
  split <;> simp

theorem State.ownView_leaveFor (s : State) (n : PortId) (x : PortState) : (s.leaveFor n x).ownView = s.ownView := by
  unfold State.leaveFor
  split
  · simp
  · simp
  iterate 2 split <;> rfl

theorem State.ownView_onAlign (s : State) (n : PortId) : (s.onAlign n).ownView = s.ownView := by
  unfold State.onAlign
  split
  · simp
  iterate 3 rfl

theorem State.ownView_onAlignAck (s : State) (n : PortId) (token : Byte) : (s.onAlignAck n token).ownView = s.ownView := by
  unfold State.onAlignAck
  split <;> rfl

theorem State.ownView_onCredit (s : State) (n : PortId) (amount : Byte) : (s.onCredit n amount).ownView = s.ownView := by
  unfold State.onCredit
  split
  · split
    · rfl
    · split <;> rfl
  · rfl

theorem State.ownView_onLink (s : State) (n : PortId) (c : Cell) : (s.onLink n c).ownView = s.ownView := by
  unfold State.onLink
  split
  · exact s.ownView_onAlign n
  · split
    · exact s.ownView_onAlignAck n _
    · split
      · exact s.ownView_onCredit n _
      · rfl

theorem State.ownView_onPortMgmt (s : State) (n : PortId) (c : Cell) : (s.onPortMgmt n c).ownView = s.ownView := by
  unfold State.onPortMgmt
  split
  · exact State.ownView_giveAgent _ _
  · rfl

theorem State.ownView_onAddData (s : State) (n : PortId) (c : Cell) : (s.onAddData n c).ownView = s.ownView := by
  unfold State.onAddData
  split
  · rfl
  · exact State.ownView_steerAdd _ n c

theorem State.ownView_onPortCell (s : State) (n : PortId) (c : Cell) : (s.onPortCell n c).ownView = s.ownView := by
  unfold State.onPortCell
  split
  · rfl
  · split
    · exact s.ownView_onAddData n c
    · rfl
  · split
    · exact s.ownView_onPortMgmt n c
    · rfl
  · exact s.ownView_onLink n c

theorem State.ownView_portArrive (s : State) (n : PortId) (bytes : List Byte) : (s.portArrive n bytes).ownView = s.ownView := by
  cases hw : portWellFormed bytes with
  | true => rw [s.portArrive_of_wellFormed n hw]; exact State.ownView_onPortCell _ n _
  | false =>
    obtain ⟨f, hf⟩ := s.portArrive_of_malformed n hw
    rw [hf]; rfl

theorem State.ownView_portOpportunity (s : State) (n : PortId) : (s.portOpportunity n).ownView = s.ownView := by
  unfold State.portOpportunity
  dsimp only
  split
  · rfl
  · split
    · rfl
    · split
      · rfl
      · split <;> rfl

theorem State.ownView_resetPort (s : State) (n : PortId) : (s.resetPort n).ownView = s.ownView := by
  refine (State.ownView_tryAlign _ n).trans ?_
  rw [State.ownView_onPort]
  split
  · rfl
  · exact s.ownView_leaveFor n .down

/-! ### The trunk -/

theorem State.ownView_trunkMgmt (s : State) (c : Cell) : (s.trunkMgmt c).ownView = s.ownView := by
  unfold State.trunkMgmt
  split
  · rfl
  · exact State.ownView_giveAgent _ _
  · split
    · rfl
    · simp

theorem State.ownView_onTrunkCell (s : State) (c : Cell) : (s.onTrunkCell c).ownView = s.ownView := by
  unfold State.onTrunkCell
  split
  · rfl
  · unfold State.trunkData
    split
    · exact State.ownView_steerTrunk _ c
    · split <;> simp
  · exact s.ownView_trunkMgmt c
  · rfl

theorem State.ownView_trunkArrive (s : State) (bytes : List Byte) : (s.trunkArrive bytes).ownView = s.ownView := by
  cases hw : trunkWellFormed bytes with
  | true => rw [s.trunkArrive_of_wellFormed hw]; exact State.ownView_onTrunkCell _ _
  | false =>
    obtain ⟨f, hf⟩ := s.trunkArrive_of_malformed hw
    rw [hf]; rfl

/-! ### The edits and the start-up clear -/

theorem State.ownView_applyDecided (s : State) (p n : Nat) (decision : Content → Option Content) (v : Verify) :
    (s.applyDecided p n decision v).ownView = s.ownView := by
  unfold State.applyDecided
  dsimp only
  split
  · split
    · rfl
    · exact s.ownView_writeVerified n _ v
  · rfl

theorem ownView_clearRun (vs : List (UsableTag × Verify)) (tags : List Nat) (s : State) (failed : Option Nat) :
    (clearRun vs tags (s, failed)).1.ownView = s.ownView := by
  induction tags generalizing s failed with
  | nil => rfl
  | cons n rest ih => exact (ih _ _).trans (s.ownView_writeVerified n _ _)

theorem State.ownView_applyClearBank (s : State) (p : Nat) (b : BankId) (vs : List (UsableTag × Verify)) :
    (s.applyClearBank p b vs).ownView = s.ownView := by
  have h := ownView_clearRun vs (bankTags b) s none
  unfold State.applyClearBank
  split <;> rename_i hc <;> rw [hc] at h <;> exact h

theorem State.ownView_clearBankEnd (s : State) (b : BankId) : (s.clearBankEnd b).ownView = s.ownView := by
  unfold State.clearBankEnd
  dsimp only
  split
  · rfl
  · exact foldl_ownView State.ownView_tryAlign allFour _

end Sys2Proof.Machine
end

section
namespace Sys2Proof.Machine

/-! ### The laws together, while a request is executed -/

/-- The laws of the origin table (R143), where the entry of `exempt`, whose request is being executed, is not settled yet: its
last sequence is new, and its response is still to come. -/
structure OriginsStand (exempt : Option Origin) (s : State) : Prop where
  few : s.agent.origins.length ≤ 8
  distinct : (s.agent.origins.map OriginEntry.origin).Nodup
  owes : ∀ e ∈ s.agent.origins, ∀ seq, e.owed = some seq → s.batch.committed ∧ s.batch.commit = some (e.origin, seq)
  owed : ∀ o seq, s.batch.commit = some (o, seq) → ∃ e ∈ s.agent.origins, e.origin = o ∧ e.owed = some seq
  settled : ∀ e ∈ s.agent.origins, exempt ≠ some e.origin → (e.resp = .pending ↔ e.owed = some e.lastSeq)

/-- The laws of O5, with the entry of `exempt` not settled yet. -/
structure OwnStands (exempt : Option Origin) (s : State) : Prop where
  staging : StagingLaw s
  commit : CommitLaw s
  lease : LeaseLaw s
  origins : OriginsStand exempt s
  settings : SettingsLaw s

theorem ownLaws_iff (s : State) : StagingLaw s ∧ OwnershipLaws s ∧ SettingsLaw s ↔ OwnStands none s := by
  constructor
  · rintro ⟨hstaging, ⟨hcommit, hlease, hfew, hdistinct, howes, howed, hsettled⟩, hsettings⟩
    exact ⟨hstaging, hcommit, hlease, ⟨hfew, hdistinct, howes, howed, fun e he _ => hsettled e he⟩, hsettings⟩
  · rintro ⟨hstaging, hcommit, hlease, ⟨hfew, hdistinct, howes, howed, hsettled⟩, hsettings⟩
    exact ⟨hstaging, ⟨hcommit, hlease, hfew, hdistinct, howes, howed, fun e he => hsettled e he nofun⟩, hsettings⟩

section
variable {x : Option Origin} {s : State}

theorem OwnStands.congr {t : State} (h : OwnStands x s) (hv : t.ownView = s.ownView) : OwnStands x t := by
  simp only [State.ownView, Prod.mk.injEq] at hv
  obtain ⟨hstate, hstaging, hcommit, hlease, horigins, hsettings⟩ := hv
  obtain ⟨h1, h2, h3, ⟨h4, h5, h6, h7, h8⟩, h9⟩ := h
  refine ⟨?_, ?_, ?_, ⟨?_, ?_, ?_, ?_, ?_⟩, ?_⟩
  all_goals
    simp only [StagingLaw, CommitLaw, LeaseLaw, SettingsLaw, Batch.committed, hstate, hstaging, hcommit, hlease, horigins,
      hsettings]
    assumption

/-- The laws leave more open while a request is executed. -/
theorem OwnStands.exempting (h : OwnStands none s) (o : Origin) : OwnStands (some o) s :=
  ⟨h.staging, h.commit, h.lease, { h.origins with settled := fun e he _ => h.origins.settled e he nofun }, h.settings⟩

/-! ### Changes to the batch, the lease and the settings -/

/-- A change to the batch that leaves it as committed as it was, and owing the same commit, keeps the laws when the new batch
meets those of the staging list and the lease. -/
theorem OwnStands.withBatch (h : OwnStands x s) {b : Batch} (hb : b.committed ↔ s.batch.committed)
    (hc : b.commit = s.batch.commit) (hlen : b.staging.length ≤ 64) (hnone : b.state = .none → b.staging = [])
    (hl : b.state ≠ .none → s.lease.holder ≠ none) : OwnStands x { s with batch := b } := by
  obtain ⟨-, ⟨hin, hout⟩, -, ho, hset⟩ := h
  refine ⟨⟨hlen, hnone⟩, ⟨fun k => ?_, fun k => ?_⟩, hl, { ho with owes := ?_, owed := ?_ }, hset⟩
  · rw [hc]; exact hin (hb.1 k)
  · rw [hc]; exact hout fun hs => k (hb.2 hs)
  · rw [hb, hc]; exact ho.owes
  · rw [hc]; exact ho.owed

theorem not_committed_of_none {b : Batch} (h : b.state = .none) : ¬b.committed := by simp [Batch.committed, h]

theorem not_committed_of_opened {b : Batch} (h : b.state = .opened) : ¬b.committed := by simp [Batch.committed, h]

/-- A batch that is not committed may be discarded (R43). -/
theorem OwnStands.discarded (h : OwnStands x s) (hs : ¬s.batch.committed) : OwnStands x s.discardBatch :=
  h.withBatch (b := s.batch.ended) ⟨fun hb => absurd hb (not_committed_of_none rfl), fun hb => absurd hb hs⟩
    (h.commit.2 hs).symm (Nat.zero_le _) (fun _ => rfl) fun hb => absurd rfl hb

theorem OwnStands.discardOpen (h : OwnStands x s) : OwnStands x s.discardOpen := by
  unfold State.discardOpen
  split
  · exact h.discarded (not_committed_of_opened ‹_›)
  · exact h

/-- A change to the lease keeps the laws when the holder stays, or no batch stands, and a running timer has time left. -/
theorem OwnStands.withLease (h : OwnStands x s) {l : Lease} (hl : s.batch.state ≠ .none → l.holder = s.lease.holder)
    (ht : ∀ o n, l = .held o n → 1 ≤ n ∧ n ≤ 255) : OwnStands x { s with lease := l } := by
  obtain ⟨hs, ⟨hin, hout⟩, hlease, ho, ⟨h1, h2, h3, h4, -⟩⟩ := h
  refine ⟨hs, ⟨fun hc => ?_, hout⟩, fun hb => ?_, { ho with }, h1, h2, h3, h4, ht⟩
  · obtain ⟨o, seq, hcommit, hholder⟩ := hin hc
    refine ⟨o, seq, hcommit, (hl ?_).trans hholder⟩
    exact fun hn => not_committed_of_none hn hc
  · exact fun hn => hlease hb ((hl hb).symm.trans hn)

theorem leasePeriod_range (h : OwnStands x s) :
    1 ≤ s.agent.settings.leasePeriod.toNat ∧ s.agent.settings.leasePeriod.toNat ≤ 255 := by
  obtain ⟨-, -, -, hperiod, -⟩ := h.settings
  have hpos : s.agent.settings.leasePeriod.toNat ≠ 0 := fun h0 => hperiod (BitVec.eq_of_toNat_eq h0)
  exact ⟨Nat.one_le_iff_ne_zero.2 hpos, Nat.le_of_lt_succ s.agent.settings.leasePeriod.isLt⟩

/-- The lease may pass to an origin that holds it already, or while no batch stands (R166 to R170). -/
theorem OwnStands.leaseTo (h : OwnStands x s) {o : Origin} (hl : s.batch.state ≠ .none → s.lease.holder = some o) :
    OwnStands x (s.leaseTo o) :=
  h.withLease (l := .held o s.agent.settings.leasePeriod.toNat) (fun hb => (hl hb).symm) fun _ _ he => by
    cases he; exact leasePeriod_range h

theorem OwnStands.leaseFree (h : OwnStands x s) (hb : s.batch.state = .none) : OwnStands x { s with lease := .free } :=
  h.withLease (fun hn => absurd hb hn) nofun

/-- A read of the lease timer leaves it time (R166). -/
theorem OwnStands.readLease (h : OwnStands x s) : OwnStands x s.readLease.1 := by
  unfold State.readLease
  split
  · rename_i o n hl
    obtain ⟨-, -, -, -, htime⟩ := h.settings
    obtain ⟨hlow, hhigh⟩ := htime o n hl
    have hmod : Config.elapsed s.draws % n < n := Nat.mod_lt _ hlow
    have ht := h.withLease (l := .held o (n - Config.elapsed s.draws % n)) (fun _ => by rw [hl]; rfl)
      (fun _ _ he => by cases he; omega)
    exact ht.congr rfl
  · exact h

theorem OwnStands.withSettings (h : OwnStands x s) {c : Settings} (hhop : c.hopLimit ≠ 0)
    (hack : 10 ≤ c.ackTimeout.toNat ∧ c.ackTimeout.toNat ≤ 1000) (hperiod : c.leasePeriod ≠ 0) :
    OwnStands x { s with agent := { s.agent with settings := c } } := by
  obtain ⟨hs, hc, hl, ho, ⟨-, -, -, -, ht⟩⟩ := h
  exact ⟨hs, hc, hl, { ho with }, hhop, hack.1, hack.2, hperiod, ht⟩

/-! ### Changes to the origin table -/

/-- A change to the entry of the origin whose request is executed settles the table, when the entry stays that of its origin
and owes what it owed. -/
theorem OriginsStand.onEntry {o : Origin} (h : OriginsStand (some o) s) {f : OriginEntry → OriginEntry}
    (hf : ∀ e, (f e).origin = e.origin ∧ (f e).owed = e.owed)
    (hs : ∀ e, (f e).resp = .pending ↔ (f e).owed = some (f e).lastSeq) : OriginsStand none (s.onEntry o f) := by
  have horigin : (s.onEntry o f).agent.origins.map OriginEntry.origin = s.agent.origins.map OriginEntry.origin := by
    simp only [State.onEntry, List.map_map]
    refine List.map_congr_left fun e _ => ?_
    simp only [Function.comp]
    split
    · exact (hf e).1
    · rfl
  refine ⟨by simpa [State.onEntry] using h.few, by rw [horigin]; exact h.distinct, ?_, ?_, ?_⟩
  all_goals simp only [State.onEntry, List.mem_map, forall_exists_index, and_imp, forall_apply_eq_imp_iff₂]
  · intro e he seq
    split
    · rw [(hf e).1, (hf e).2]; exact h.owes e he seq
    · exact h.owes e he seq
  · intro o' seq hcommit
    obtain ⟨e, he, heo, hseq⟩ := h.owed o' seq hcommit
    refine ⟨_, ⟨e, he, rfl⟩, ?_⟩
    split
    · rw [(hf e).1, (hf e).2]; exact ⟨heo, hseq⟩
    · exact ⟨heo, hseq⟩
  · intro e he
    split
    · exact fun _ => hs e
    · exact fun _ => h.settled e he fun heq => ‹e.origin ≠ o› (Option.some.inj heq).symm

/-- The response to a request settles the entry of its origin (R143, R147). -/
theorem OwnStands.respond {r : Request} (h : OwnStands (some r.origin) s) (st : Status) (body : List Byte) :
    OwnStands none (s.respond r st body) := by
  have hset : OriginsStand none (s.onEntry r.origin fun e => e.answered (s.response r.origin r.seq r.code st body)) := by
    refine h.origins.onEntry (fun e => ⟨rfl, rfl⟩) fun e => ?_
    simp only [OriginEntry.answered]
    split <;> simp_all
  exact OwnStands.congr (s := s.onEntry r.origin _) ⟨h.staging, h.commit, h.lease, hset, h.settings⟩
    (State.ownView_offerResponse _ _ _)

theorem OwnStands.follow {leased : Bool} {o : Origin} (h : OwnStands x s) : OwnStands x (s.follow leased o) := by
  have hrenew : OwnStands x (if leased then s.renewFor o else s) := by
    unfold State.renewFor
    split
    · split
      · exact h.leaseTo fun _ => ‹_›
      · exact h
    · exact h
  exact hrenew.congr (State.ownView_contact _ o)

end

/-- The entries of one origin are one entry. -/
theorem OriginsStand.unique {x : Option Origin} {s : State} (h : OriginsStand x s) {e d : OriginEntry}
    (he : e ∈ s.agent.origins) (hd : d ∈ s.agent.origins) (ho : e.origin = d.origin) : e = d :=
  List.inj_on_of_nodup_map h.distinct he hd ho

/-! ### The end of a committed batch (R63, R65, R173) -/

/-- An entry of the origin table after the commit of origin `o` has been answered with `cell` (R65, R145). -/
def OriginEntry.delivered (e : OriginEntry) (o : Origin) (seq : BitVec 16) (cell : Cell) : OriginEntry :=
  if e.origin = o then { e with owed := none, resp := if e.lastSeq = seq then .cached cell else e.resp } else e

@[simp] theorem OriginEntry.delivered_origin (e : OriginEntry) (o : Origin) (seq : BitVec 16) (cell : Cell) :
    (e.delivered o seq cell).origin = e.origin := by
  unfold OriginEntry.delivered; split <;> rfl

/-- No entry owes a commit once the one that is owed has been answered. -/
theorem OriginsStand.delivered_owed {x : Option Origin} {s : State} (h : OriginsStand x s) {o : Origin} {seq : BitVec 16}
    (hc : s.batch.commit = some (o, seq)) (cell : Cell) {e : OriginEntry} (he : e ∈ s.agent.origins) :
    (e.delivered o seq cell).owed = none := by
  unfold OriginEntry.delivered
  split
  · rfl
  · rename_i hne
    by_contra hsome
    obtain ⟨q, hq⟩ := Option.ne_none_iff_exists'.1 hsome
    have hcommit := (h.owes e he q hq).2
    rw [hc] at hcommit
    exact hne (congrArg Prod.fst (Option.some.inj hcommit)).symm

/-- The lease after the end of a batch: an OVERDUE one is released (R173). -/
def Lease.released : Lease → Lease
  | .overdue _ => .free
  | l => l

theorem State.ownView_finishBatch {s : State} {o : Origin} {seq : BitVec 16} (hc : s.batch.commit = some (o, seq))
    (st : Status) (applied : List BankId) (os : List Outcome) :
    ∃ cell, (s.finishBatch st applied os).ownView = (.none, [], none, s.lease.released,
      s.agent.origins.map fun e => e.delivered o seq cell, s.agent.settings) := by
  have hsignal (t : State) : t.batchEndSignal.ownView = { t with lease := t.lease.released }.ownView := by
    unfold State.batchEndSignal
    cases hl : t.lease <;> simp [Lease.released, State.ownView, hl]
  refine ⟨s.discardBatch.response o seq 0x22 st (commitBody s.batch applied os), ?_⟩
  simp only [State.finishBatch, hc, hsignal]
  simp [State.deliverCommit, State.ownView, State.onEntry, OriginEntry.delivered, Batch.ended,
    (RequestFrame.offerResponse _ _ _).batch]

theorem Lease.released_held {l : Lease} {o : Origin} {n : Nat} (h : l.released = .held o n) : l = .held o n := by
  cases l <;> simp_all [Lease.released]

/-- The end of a committed batch clears the commit that its origin owed, and settles nothing of any other origin. -/
theorem OwnStands.finishBatch {x : Option Origin} {s : State} (h : OwnStands x s) (hb : s.batch.committed) (st : Status)
    (applied : List BankId) (os : List Outcome) : OwnStands x (s.finishBatch st applied os) := by
  obtain ⟨o, seq, hcommit, -⟩ := h.commit.1 hb
  obtain ⟨cell, hv⟩ := State.ownView_finishBatch hcommit st applied os
  refine OwnStands.congr (s := { s with
    batch := s.batch.ended, lease := s.lease.released
    agent := { s.agent with origins := s.agent.origins.map fun e => e.delivered o seq cell } }) ?_ hv
  have hnot : ¬s.batch.ended.committed := not_committed_of_none rfl
  obtain ⟨h1, h2, h3, h4, ht⟩ := h.settings
  refine ⟨⟨Nat.zero_le _, fun _ => rfl⟩, ⟨fun hc => absurd hc hnot, fun _ => rfl⟩, fun hn => absurd rfl hn,
    ⟨by simpa using h.origins.few, ?_, ?_, nofun, ?_⟩, h1, h2, h3, h4, fun o' n hl => ht o' n (Lease.released_held hl)⟩
  · simpa [Function.comp_def] using h.origins.distinct
  · intro e he q hq
    obtain ⟨d, hd, rfl⟩ := List.mem_map.1 he
    rw [h.origins.delivered_owed hcommit cell hd] at hq
    cases hq
  · intro e he hne
    obtain ⟨d, hd, rfl⟩ := List.mem_map.1 he
    rw [OriginEntry.delivered_origin] at hne
    have hlaw := h.origins.settled d hd hne
    have howed := h.origins.delivered_owed hcommit cell hd
    rw [howed]
    by_cases hdo : d.origin = o
    · obtain ⟨e', he', heo, heseq⟩ := h.origins.owed o seq hcommit
      obtain rfl := h.origins.unique he' hd (heo.trans hdo.symm)
      simp only [heseq, Option.some.injEq] at hlaw
      by_cases hlast : e'.lastSeq = seq
      · simp [OriginEntry.delivered, hdo, hlast]
      · simpa [OriginEntry.delivered, hdo, hlast, hlaw] using Ne.symm hlast
    · simp only [OriginEntry.delivered, if_neg hdo] at howed ⊢
      simpa [howed] using hlaw

theorem OwnStands.startApply {x : Option Origin} {s : State} (h : OwnStands x s) (hw : s.batch.state = .waiting) :
    OwnStands x s.startApply := by
  have hb : s.batch.committed := .inl hw
  unfold State.startApply
  split
  · have hnone : s.batch.state ≠ .none := by simp [hw]
    exact (h.withBatch (b := { s.batch with state := .applying }) ⟨fun _ => hb, fun _ => .inr rfl⟩ rfl h.staging.1 nofun
      fun _ => h.lease hnone).congr rfl
  · exact h.finishBatch hb _ _ _

theorem OwnStands.tryStart {x : Option Origin} {s : State} (h : OwnStands x s) : OwnStands x s.tryStart := by
  unfold State.tryStart
  split
  · rename_i hw
    exact h.startApply hw.1
  · exact h

theorem OwnStands.bankEnd {x : Option Origin} {s : State} (h : OwnStands x s) (ha : s.batch.state = .applying) (b : BankId) :
    OwnStands x (s.bankEnd b) := by
  have hserving : OwnStands x (s.setBank b .serving) := h.congr rfl
  have hb : (s.setBank b .serving).batch.committed := .inr ha
  unfold State.bankEnd
  dsimp only
  split
  · split
    · exact hserving.finishBatch hb _ _ _
    · exact h.congr rfl
  · exact hserving.finishBatch hb _ _ _

end Sys2Proof.Machine
end

section
namespace Sys2Proof.Machine

/-! ### Entering a request (R144) -/

/-- The origin table with one entry put first, before some of those that it held: none is left out that owes a commit. -/
theorem OriginsStand.enter {s : State} (h : OriginsStand none s) {d : OriginEntry} {es : List OriginEntry}
    (hsub : es.Sublist s.agent.origins) (hlen : es.length < 8) (hnew : ∀ e ∈ es, e.origin ≠ d.origin)
    (howes : ∀ seq, d.owed = some seq → s.batch.committed ∧ s.batch.commit = some (d.origin, seq))
    (hkept : ∀ e ∈ s.agent.origins, e.owed ≠ none → e ∈ es ∨ d.origin = e.origin ∧ d.owed = e.owed) :
    OriginsStand (some d.origin) { s with agent := { s.agent with origins := d :: es } } where
  few := hlen
  distinct := by
    refine List.nodup_cons.2 ⟨fun hm => ?_, (hsub.map _).nodup h.distinct⟩
    obtain ⟨e, he, heo⟩ := List.mem_map.1 hm
    exact hnew e he heo
  owes := List.forall_mem_cons.2 ⟨howes, fun e he => h.owes e (hsub.subset he)⟩
  owed := by
    intro o seq hc
    obtain ⟨e, he, heo, hseq⟩ := h.owed o seq hc
    rcases hkept e he (by simp [hseq]) with hmem | ⟨hdo, hdw⟩
    · exact ⟨e, List.mem_cons_of_mem _ hmem, heo, hseq⟩
    · exact ⟨d, List.mem_cons_self, hdo.trans heo, hdw.trans hseq⟩
  settled := List.forall_mem_cons.2 ⟨fun hne => absurd rfl hne, fun e he _ => h.settled e (hsub.subset he) nofun⟩

/-- Of eight origins, at most one of which owes a commit, one does not. -/
theorem OriginsStand.not_all_owe {x : Option Origin} {s : State} (h : OriginsStand x s) (hlen : 2 ≤ s.agent.origins.length) :
    ∃ e ∈ s.agent.origins, e.owed = none := by
  by_contra hall
  push Not at hall
  have hsame : ∀ e ∈ s.agent.origins, ∃ seq, s.batch.commit = some (e.origin, seq) := fun e he => by
    obtain ⟨q, hq⟩ := Option.ne_none_iff_exists'.1 (hall e he)
    exact ⟨q, (h.owes e he q hq).2⟩
  have hdistinct := h.distinct
  match hes : s.agent.origins with
  | [] | [_] => simp [hes] at hlen
  | a :: b :: rest =>
    obtain ⟨q, hq⟩ := hsame a (by simp [hes])
    obtain ⟨q', hq'⟩ := hsame b (by simp [hes])
    rw [hq] at hq'
    have hab : a.origin = b.origin := congrArg Prod.fst (Option.some.inj hq')
    simp [hes, hab] at hdistinct

theorem OwnStands.withOrigins {x y : Option Origin} {s : State} {os : List OriginEntry} (h : OwnStands x s)
    (ho : OriginsStand y { s with agent := { s.agent with origins := os } }) :
    OwnStands y { s with agent := { s.agent with origins := os } } :=
  ⟨h.staging, h.commit, h.lease, ho, h.settings⟩

/-- Replacing the least recent entry that owes no commit leaves the others (R144). -/
theorem dropLeastRecent_spec {es : List OriginEntry} (hfree : ∃ e ∈ es, e.owed = none) :
    (dropLeastRecent es).Sublist es ∧ (∀ e ∈ es, e.owed ≠ none → e ∈ dropLeastRecent es) ∧
    (dropLeastRecent es).length = es.length - 1 := by
  obtain ⟨d, hd, hnone⟩ := hfree
  refine ⟨?_, fun e he howed => ?_, ?_⟩
  · simpa [dropLeastRecent] using (List.eraseP_sublist (p := fun e : OriginEntry => e.owed.isNone) (l := es.reverse)).reverse
  · simpa [dropLeastRecent, List.mem_eraseP_of_neg, howed] using he
  · simpa [dropLeastRecent] using
      List.length_eraseP_of_mem (p := fun e : OriginEntry => e.owed.isNone) (List.mem_reverse.2 hd) (by simp [hnone])

/-- Entering a request leaves the laws, but for the entry of its origin, which is not settled yet. -/
theorem OwnStands.enterOrigin {s : State} (h : OwnStands none s) (o : Origin) (seq : BitVec 16) :
    OwnStands (some o) (s.enterOrigin o seq) := by
  unfold State.enterOrigin
  split
  · rename_i e he
    have hmem : e ∈ s.agent.origins := List.mem_of_find?_eq_some he
    have heo : e.origin = o := by simpa using List.find?_some he
    subst heo
    refine h.withOrigins (h.origins.enter (d := { e with lastSeq := seq }) List.filter_sublist ?_ (fun d hd => ?_)
      (h.origins.owes e hmem) fun d hd _ => ?_)
    · exact (List.length_filter_lt_length_iff_exists.2 ⟨e, hmem, by simp⟩).trans_le h.origins.few
    · simpa using (List.mem_filter.1 hd).2
    · by_cases hde : d.origin = e.origin
      · obtain rfl := h.origins.unique hd hmem hde
        exact .inr ⟨rfl, rfl⟩
      · exact .inl (List.mem_filter.2 ⟨hd, by simpa using hde⟩)
  · rename_i hnone
    have hnew : ∀ e ∈ s.agent.origins, e.origin ≠ o := by simpa [State.entryOf] using hnone
    dsimp only
    split
    · exact h.withOrigins (h.origins.enter (d := { origin := o, lastSeq := seq, resp := .pending, owed := none })
        (List.Sublist.refl _) ‹_› hnew (fun _ hw => by cases hw) fun e he _ => .inl he)
    · rename_i hfull
      obtain ⟨hsub, howing, hless⟩ := dropLeastRecent_spec (h.origins.not_all_owe (by omega))
      have hfew := h.origins.few
      have hroom := h.withOrigins (h.origins.enter (d := { origin := o, lastSeq := seq, resp := .pending, owed := none })
        hsub (by omega) (fun e he => hnew e (hsub.subset he)) (fun _ hw => by cases hw)
        fun e he hw => .inl (howing e he hw))
      exact hroom.congr rfl

end Sys2Proof.Machine
end

section
namespace Sys2Proof.Machine

/-! ### Executing a request -/

/-- A request stands entered, and has passed the check of the lease (R144, R147). -/
structure Executing (r : Request) (e : State) : Prop where
  stands : OwnStands (some r.origin) e
  entered : ∃ x ∈ e.agent.origins, x.origin = r.origin
  last : ∀ x ∈ e.agent.origins, x.origin = r.origin → x.lastSeq = r.seq
  holder : e.needsLease r.code = true → e.lease.holder = some r.origin

/-- What the block of a request is to leave: a response settles the entry of its origin, and an accepted commit, which has
none yet, has settled it. -/
structure Concluding (r : Request) (p : State × Reply) : Prop where
  stands : OwnStands (some r.origin) p.1
  accepted : p.2 = .accepted → OwnStands none p.1

theorem Concluding.answer {r : Request} {s : State} (h : OwnStands (some r.origin) s) (st : Status) (body : List Byte) :
    Concluding r (s, .answer st body) := ⟨h, nofun⟩

theorem Concluding.malformed {r : Request} {s : State} (h : OwnStands (some r.origin) s) :
    Concluding r (Sys2Proof.Machine.malformed s) := .answer h _ _

theorem Concluding.outOfRange {r : Request} {s : State} (h : OwnStands (some r.origin) s) :
    Concluding r (Sys2Proof.Machine.outOfRange s) := .answer h _ _

theorem Concluding.concluded {r : Request} {p : State × Reply} (h : Concluding r p) (leased : Bool) :
    OwnStands none (p.1.concluded leased r p.2) := by
  obtain ⟨t, reply⟩ := p
  cases reply with
  | answer st body => exact (h.stands.respond st body).follow
  | accepted => exact (h.accepted rfl).follow
  | reset body => exact ((h.stands.respond .ok body).follow).congr (State.ownView_takeResetReports _)

/-- The state in which a request is entered, with the laws but for the entry of its origin (R144). -/
theorem OwnStands.entered {s : State} (h : OwnStands none s) (m : HandCell) (rest : List HandCell) :
    OwnStands (some m.origin) (s.entered m rest) ∧ (∃ x ∈ (s.entered m rest).agent.origins, x.origin = m.origin) ∧
    ∀ x ∈ (s.entered m rest).agent.origins, x.origin = m.origin → x.lastSeq = m.cell.reqSeq := by
  have hstands : OwnStands (some m.origin) (s.entered m rest) := by
    refine OwnStands.congr (OwnStands.enterOrigin (s := (s.setHands rest).consume.notePast m.origin m.cell.reqSeq
      (s.staysAnew m)) (h.congr rfl) m.origin m.cell.reqSeq) rfl
  obtain ⟨e, he, hlast, heo⟩ := s.entered_entry m rest
  have hmem := List.mem_of_find?_eq_some he
  exact ⟨hstands, ⟨e, hmem, heo⟩, fun x hx hxo => hstands.origins.unique hx hmem (hxo.trans heo.symm) ▸ hlast⟩

/-- A request keeps the laws when its block does, but for the entry that the response settles (R143, R147). -/
theorem OwnStands.takeRequest {mine : Byte → Bool} {handler : Request → State → State × Reply}
    (hh : ∀ r e, mine r.code = true → Executing r e → Concluding r (handler r e)) {s : State} (h : OwnStands none s) :
    OwnStands none (s.takeRequest mine handler) := by
  unfold State.takeRequest
  split
  · exact h
  · rename_i m rest _
    split
    · rename_i hc
      obtain ⟨-, -, hmine⟩ := hc
      obtain ⟨hstands, hentered, hlast⟩ := h.entered m rest
      have hhandled : Concluding m.request ((s.entered m rest).handled m.cell.bodyMisfits m.request handler) := by
        unfold State.handled
        split
        · exact .answer hstands _ _
        · split
          · exact .answer hstands _ _
          · split
            · exact .answer hstands _ _
            · split
              · exact .answer hstands _ _
              · rename_i hl
                exact hh _ _ hmine ⟨hstands, hentered, hlast, fun hn => by_contra fun hne => hl ⟨hn, hne⟩⟩
      exact (hhandled.concluded _).congr (ownView_settleHands _ _)
    · exact h

/-- The requester holds the lease when the code of its request needs it (R147). -/
theorem Executing.leased {r : Request} {e : State} (h : Executing r e) {code : Byte} (hm : isCode code r.code = true)
    (hc : leaseCodes.contains code = true) : e.lease.holder = some r.origin := by
  obtain rfl : r.code = code := by simpa [isCode] using hm
  exact h.holder (by rw [State.needsLease, hc, Bool.true_or])

/-! ### The blocks that answer -/

section
variable {r : Request} {s : State}

/-- A block that answers without a change. -/
theorem Concluding.unchanged {p : State × Reply} (h : OwnStands (some r.origin) s) (hs : p.1 = s) (hp : p.2 ≠ .accepted) :
    Concluding r p := ⟨hs ▸ h, fun ha => absurd ha hp⟩

theorem handleNodeQuery_concluding (h : OwnStands (some r.origin) s) : Concluding r (handleNodeQuery r s) := by
  unfold handleNodeQuery
  split
  · exact .malformed h
  · exact .answer h.readLease _ _

theorem handleCountersRead_concluding (h : OwnStands (some r.origin) s) : Concluding r (handleCountersRead r s) := by
  refine .unchanged h (handleCountersRead_fst r s) ?_
  unfold handleCountersRead
  split
  · split
    · nofun
    · split <;> nofun
  · nofun

theorem handleEntryRead_concluding (h : OwnStands (some r.origin) s) : Concluding r (handleEntryRead r s) := by
  refine .unchanged h (handleEntryRead_fst r s) ?_
  unfold handleEntryRead
  split
  · split
    · nofun
    · split <;> nofun
  · nofun

theorem handleTableScan_concluding (h : OwnStands (some r.origin) s) : Concluding r (handleTableScan r s) := by
  refine .unchanged h (handleTableScan_fst r s) ?_
  unfold handleTableScan
  split
  · split
    · nofun
    · split <;> nofun
  · nofun

theorem handleQueueQuery_concluding (h : OwnStands (some r.origin) s) : Concluding r (handleQueueQuery r s) := by
  refine .unchanged h (handleQueueQuery_fst r s) ?_
  unfold handleQueueQuery
  split
  · split <;> nofun
  · nofun

theorem handlePortQuery_concluding (h : OwnStands (some r.origin) s) : Concluding r (handlePortQuery r s) := by
  refine .unchanged h (handlePortQuery_fst r s) ?_
  unfold handlePortQuery
  split
  · split <;> nofun
  · nofun

/-- A NODE-SET without a field out of range has every selected one in its range (R154). -/
theorem nodeSetFault_none {lmgt : Bool} {mask act hop dest lease : Byte} {ack : BitVec 16}
    (h : nodeSetFault lmgt mask act hop dest ack lease = none) :
    (mask.getLsbD 1 = true → 1 ≤ hop.toNat ∧ hop.toNat ≤ 15) ∧
    (mask.getLsbD 3 = true → 10 ≤ ack.toNat ∧ ack.toNat ≤ 1000) ∧ (mask.getLsbD 4 = true → lease ≠ 0) := by
  simp only [nodeSetFault, ite_eq_iff, reduceCtorEq, and_false, false_or, and_true] at h
  tauto

/-- The settings that NODE-SET leaves are in range: a selected one was checked, and another stays (R154). -/
theorem OwnStands.nodeSet {x : Option Origin} (h : OwnStands x s) {mask act hop dest lease : Byte} {ack : BitVec 16}
    (hf : nodeSetFault s.agent.lmgt mask act hop dest ack lease = none) :
    OwnStands x { s with agent := { s.agent with settings := s.agent.settings.changed mask act hop dest ack lease } } := by
  obtain ⟨hhop, hlow, hhigh, hperiod, -⟩ := h.settings
  obtain ⟨hhop', hack', hperiod'⟩ := nodeSetFault_none hf
  refine h.withSettings ?_ ?_ ?_ <;> simp only [Settings.changed] <;> split
  · have hrange := hhop' ‹_›
    intro h0
    have hzero : hop.toNat % 16 = 0 := by simpa using congrArg BitVec.toNat h0
    omega
  · exact hhop
  · exact hack' ‹_›
  · exact ⟨hlow, hhigh⟩
  · exact hperiod' ‹_›
  · exact hperiod

theorem handleNodeSet_concluding (h : OwnStands (some r.origin) s) : Concluding r (handleNodeSet r s) := by
  unfold handleNodeSet
  split
  · split
    · exact .answer h _ _
    · rename_i hf
      refine .answer ?_ _ _
      dsimp only
      split
      · exact (h.nodeSet hf).congr (State.ownView_destinationSelected _)
      · exact h.nodeSet hf
  · exact .malformed h

theorem handleQueueSet_concluding (h : OwnStands (some r.origin) s) : Concluding r (handleQueueSet r s) := by
  unfold handleQueueSet
  split
  · split
    · exact .outOfRange h
    · rename_i f1 f0 c1 c0 q _
      dsimp only
      generalize (if (addQueuePort q).isSome = true then _ else _) = ceiling
      split
      · exact .outOfRange h
      · split
        · exact .answer h _ _
        · split
          · exact .answer h _ _
          · split
            · exact .answer h _ _
            · refine .answer ?_ _ _
              exact h.congr rfl
  · exact .malformed h

theorem handleQueueFlush_concluding (h : OwnStands (some r.origin) s) : Concluding r (handleQueueFlush r s) := by
  unfold handleQueueFlush
  split
  · split
    · exact .outOfRange h
    · refine .answer ?_ _ _
      split
      · exact OwnStands.tryStart (h.congr (s.ownView_flush _))
      · exact h.congr (s.ownView_flush _)
  · exact .malformed h

theorem handlePortSet_concluding (h : OwnStands (some r.origin) s) : Concluding r (handlePortSet r s) := by
  unfold handlePortSet
  split
  · split
    · exact .outOfRange h
    · rename_i n _
      dsimp only
      split
      · exact .outOfRange h
      · refine .answer ?_ _ _
        split
        · split
          · exact h
          · exact h.congr ((State.ownView_onPort _ n _).trans (s.ownView_leaveFor n .off))
        · split
          · exact h.congr ((State.ownView_tryAlign _ n).trans (s.ownView_movePort n .down))
          · exact h
  · exact .malformed h

theorem handleCountersClear_concluding (h : OwnStands (some r.origin) s) : Concluding r (handleCountersClear r s) := by
  unfold handleCountersClear
  split
  · exact .malformed h
  · refine .answer ?_ _ _
    exact h.congr rfl

theorem handleAssignAddress_concluding (h : OwnStands (some r.origin) s) : Concluding r (handleAssignAddress r s) := by
  unfold handleAssignAddress
  split
  · split
    · exact .outOfRange h
    · split
      · exact .answer h _ _
      · refine .answer ?_ _ _
        exact h.congr rfl
  · exact .malformed h

/-! ### NODE-RESET -/

/-- What NODE-RESET leaves of the batch, the lease, the origin table and the settings (R195). -/
theorem State.ownView_nodeReset (s : State) (r : Request) : (s.nodeReset r).ownView =
    (.none, [], none, .free, [{ origin := r.origin, lastSeq := r.seq, resp := .pending, owed := none }],
      s.agent.settings) := by
  unfold State.nodeReset
  dsimp only
  generalize ht : ({ s.stopBanks.discardBatch with lease := .free, notices := _ } : State) = t
  have hview : t.ownView = (.none, [], none, .free, s.agent.origins, s.agent.settings) := by rw [← ht]; rfl
  have hfold : (allFour.foldl State.resetPort (allQueues.foldl State.flush t)).ownView = t.ownView :=
    (foldl_ownView State.ownView_resetPort allFour _).trans (foldl_ownView State.ownView_flush allQueues t)
  rw [hview] at hfold
  generalize allFour.foldl State.resetPort _ = u at hfold
  simp only [State.ownView, Prod.mk.injEq] at hfold ⊢
  obtain ⟨h1, h2, h3, h4, -, h5⟩ := hfold
  exact ⟨h1, h2, h3, h4, trivial, h5⟩

theorem handleNodeReset_concluding (h : OwnStands (some r.origin) s) : Concluding r (handleNodeReset r s) := by
  unfold handleNodeReset
  split
  · exact .malformed h
  · refine ⟨?_, nofun⟩
    have hv := s.ownView_nodeReset r
    simp only [State.ownView, Prod.mk.injEq] at hv
    obtain ⟨hstate, hstaging, hcommit, hlease, horigins, hsettings⟩ := hv
    obtain ⟨h1, h2, h3, h4, -⟩ := h.settings
    refine ⟨?_, ?_, ?_, ⟨?_, ?_, ?_, ?_, ?_⟩, ?_, ?_, ?_, ?_, ?_⟩
    iterate 8 simp [StagingLaw, CommitLaw, LeaseLaw, Batch.committed, hstate, hstaging, hcommit, horigins]
    iterate 4 rw [hsettings]; assumption
    simp [hlease]

end

end Sys2Proof.Machine
end

section
namespace Sys2Proof.Machine

/-! ### The requests of the batch and of the lease -/

section
variable {r : Request} {s : State}

theorem handleBatchOpen_concluding (h : OwnStands (some r.origin) s) (hl : s.lease.holder = some r.origin) :
    Concluding r (handleBatchOpen r s) := by
  unfold handleBatchOpen
  split
  · split
    · exact .outOfRange h
    · split
      · exact .outOfRange h
      · split
        · rename_i hn
          have hnot := not_committed_of_none hn
          refine .answer (h.withBatch (b := { s.batch with state := .opened, id := _, policy := _, staging := [] })
            ⟨fun hb => ?_, fun hb => absurd hb hnot⟩ rfl (Nat.zero_le _) nofun fun _ => by simp [hl]) _ _
          exact absurd hb (not_committed_of_opened rfl)
        iterate 3 exact .answer h _ _
  · exact .malformed h

theorem handleBatchEdit_concluding (h : OwnStands (some r.origin) s) : Concluding r (handleBatchEdit r s) := by
  unfold handleBatchEdit
  dsimp only
  split
  · exact .malformed h
  · split
    · exact .answer h _ _
    · rename_i hopen
      have hstate : s.batch.state = .opened := by simp only [not_or, not_not] at hopen; exact hopen.1
      split
      · exact .answer h _ _
      · split
        · exact .answer h _ _
        · refine .answer (h.withBatch (b := { s.batch with staging := s.batch.staging ++ imagesOf r.body }) Iff.rfl rfl
            (Nat.not_lt.1 ‹_›) (fun hn => ?_) h.lease) _ _
          rw [hstate] at hn
          cases hn

/-- The state in which a commit has been accepted: it is owed to its origin, which holds the lease (R50, R143). -/
theorem Executing.accepted (h : Executing r s) (ho : s.batch.state = .opened) (hl : s.lease.holder = some r.origin) :
    OwnStands none
      (State.onEntry { s with batch := { s.batch with state := .waiting, commit := some (r.origin, r.seq) } } r.origin
        fun e => { e with resp := .pending, owed := some r.seq }) := by
  obtain ⟨⟨⟨hlen, -⟩, -, -, horigins, hsettings⟩, ⟨x, hx, hxo⟩, hlast, -⟩ := h
  have hnone (e : OriginEntry) (he : e ∈ s.agent.origins) : e.owed = none := by
    by_contra hsome
    obtain ⟨q, hq⟩ := Option.ne_none_iff_exists'.1 hsome
    exact not_committed_of_opened ho (horigins.owes e he q hq).1
  refine ⟨⟨hlen, nofun⟩, ⟨fun _ => ⟨_, _, rfl, hl⟩, fun hn => absurd (.inl rfl) hn⟩, fun _ => ?_, ⟨?_, ?_, ?_, ?_, ?_⟩,
    hsettings⟩
  · simpa [State.onEntry] using hl ▸ Option.some_ne_none r.origin
  · simpa [State.onEntry] using horigins.few
  · have hmap : (fun e : OriginEntry => (if e.origin = r.origin then
        { e with resp := .pending, owed := some r.seq } else e).origin) = OriginEntry.origin := by
      funext e; split <;> rfl
    simpa [State.onEntry, Function.comp_def, hmap] using horigins.distinct
  all_goals simp only [State.onEntry, List.mem_map, forall_exists_index, and_imp, forall_apply_eq_imp_iff₂]
  · intro e he q
    split
    · rename_i heo
      intro hq
      cases hq
      exact ⟨.inl rfl, by rw [heo]⟩
    · simp [hnone e he]
  · intro o q hc
    cases hc
    exact ⟨_, ⟨x, hx, rfl⟩, by simp [hxo]⟩
  · intro e he hne
    split
    · rename_i heo
      simp [hlast e he heo]
    · rename_i heo
      exact horigins.settled e he fun heq => heo (Option.some.inj heq).symm

theorem handleBatchCommit_concluding (h : Executing r s) (hl : s.lease.holder = some r.origin) :
    Concluding r (handleBatchCommit r s) := by
  have hs := h.stands
  unfold handleBatchCommit
  split
  · split
    iterate 3 exact .answer hs _ _
    · split
      · exact .answer hs _ _
      · split
        · exact .answer hs _ _
        · split
          · exact .answer hs _ _
          · have hstart := (h.accepted ‹_› hl).tryStart
            exact ⟨hstart.exempting _, fun _ => hstart⟩
  · exact .malformed hs

theorem handleBatchAbort_concluding (h : OwnStands (some r.origin) s) : Concluding r (handleBatchAbort r s) := by
  unfold handleBatchAbort
  split
  · split
    · exact .answer h _ _
    · split
      · exact .answer h _ _
      · exact .answer (h.discarded (not_committed_of_opened ‹_›)) _ _
      · exact .answer (h.finishBatch (.inl ‹_›) _ _ _) _ _
      · exact .answer (h.withBatch (b := { s.batch with abortPending := true }) Iff.rfl rfl h.staging.1 h.staging.2
          h.lease) _ _
  · exact .answer h _ _

theorem State.discardOpen_state (hw : ¬s.batch.committed) : s.discardOpen.batch.state = .none := by
  unfold State.discardOpen
  split
  · rfl
  · cases hs : s.batch.state <;> simp_all [Batch.committed]

/-- While no origin holds the lease no batch stands (R165). -/
theorem OwnStands.state_none {x : Option Origin} (h : OwnStands x s) (hl : s.lease.holder = none) : s.batch.state = .none :=
  by_contra fun hn => h.lease hn hl

theorem handleLeaseTake_concluding (h : OwnStands (some r.origin) s) : Concluding r (handleLeaseTake r s) := by
  unfold handleLeaseTake
  split
  · split
    · exact .outOfRange h
    · split
      · rename_i hl
        exact .answer (h.leaseTo fun hn => absurd (h.state_none hl) hn) _ _
      · rename_i o hl
        split
        · rename_i ho
          exact .answer (h.leaseTo fun _ => by rw [hl, ho]) _ _
        · split
          · exact .answer h.readLease _ _
          · split
            · exact .answer h _ _
            · rename_i hw
              have hlost : OwnStands (some r.origin) (s.discardOpen.hand .leaseLogic (leaseLost o 2)) :=
                h.discardOpen.congr rfl
              exact .answer (hlost.leaseTo fun hn => absurd (State.discardOpen_state hw) hn) _ _
  · exact .malformed h

theorem handleLeaseRenew_concluding (h : OwnStands (some r.origin) s) : Concluding r (handleLeaseRenew r s) := by
  unfold handleLeaseRenew
  split
  · exact .malformed h
  · split
    · exact .answer (h.leaseTo fun _ => ‹_›) _ _
    · exact .answer h _ _

theorem handleLeaseGive_concluding (h : OwnStands (some r.origin) s) : Concluding r (handleLeaseGive r s) := by
  unfold handleLeaseGive
  split
  · exact .malformed h
  · split
    · exact .answer h _ _
    · split
      · exact .answer h _ _
      · exact .answer h _ _
      · exact .answer ((h.discarded (not_committed_of_opened ‹_›)).leaseFree rfl) _ _
      · exact .answer (h.leaseFree ‹_›) _ _

end

/-! ### Every command keeps the laws -/

/-- The commands that keep `ownView`, whatever the state. -/
def ownQuiet : Instr → Bool
  | .hardwareResetEnd _ _ | .recordDamage _ _ | .tinSignalPresent | .tinSignalLost _ | .tinArrival _ | .noticeAck
  | .write _ | .clear _ | .refill _ | .bar _ | .unbar _ | .clearBank _ | .startUpClear _ | .toutOpportunity _
  | .portSignalPresent _ | .portSignalLost _ _ | .portArrival _ _ | .align _ | .alignAck _ _ | .credit _ _
  | .portOpportunity _ | .resendTimerExpiry _ | .stallTimerExpiry _ | .silenceTimeout _ | .ackTimerExpiry
  | .eventReport _ => true
  | _ => false

theorem execNoticeAck_ownView (s : State) : Leaves (execNoticeAck s) fun t => t.ownView = s.ownView := by
  unfold execNoticeAck
  split
  · exact leaves_next.2 rfl
  · split
    · exact leaves_next.2 ((ownView_settleHands _ _).trans (State.ownView_takeAck _ _ _))
    · exact leaves_next.2 rfl

theorem execStartUpClear_ownView (v : Verify) (s : State) : Leaves (execStartUpClear v s) fun t => t.ownView = s.ownView := by
  unfold execStartUpClear
  dsimp only
  split
  · have hw := s.ownView_writeVerified s.clearNext Content.cleared v
    generalize (s.writeVerified s.clearNext Content.cleared v).1 = t at hw
    rw [leaves_next]
    split
    · exact (State.ownView_clearBankEnd _ _).trans hw
    · exact hw
  · exact leaves_next.2 rfl

theorem execPortSignalLost_ownView (n : PortId) (begun : Bool) (s : State) :
    Leaves (execPortSignalLost n begun s) fun t => t.ownView = s.ownView := by
  unfold execPortSignalLost
  split
  · exact leaves_next.2 rfl
  · dsimp only
    split
    iterate 2 exact leaves_next.2 ((State.ownView_leaveFor _ n .down).trans (s.ownView_onPort n _))
    iterate 2 exact leaves_next.2 (s.ownView_onPort n _)

theorem execToutOpportunity_ownView (order : List PortId) (s : State) :
    Leaves (execToutOpportunity order s) fun t => t.ownView = s.ownView := by
  have hsend (t : State) (x : Choice) : (t.sendChoice x).ownView = t.ownView := by cases x <;> rfl
  unfold execToutOpportunity
  split
  · exact leaves_next.2 rfl
  · exact leaves_next.2 ((hsend _ _).trans (s.ownView_allDeferred order))

theorem execAckTimerExpiry_ownView (s : State) : Leaves (execAckTimerExpiry s) fun t => t.ownView = s.ownView := by
  unfold execAckTimerExpiry
  split
  · split
    · exact leaves_next.2 (s.ownView_resendNotice _ _ _)
    · exact leaves_next.2 rfl
  · exact leaves_next.2 rfl

theorem exec_ownView {i : Instr} (h : ownQuiet i = true) (s : State) : Leaves (exec i s) fun t => t.ownView = s.ownView := by
  cases i with
  | hardwareResetEnd naddr lmgt =>
    simp only [exec, execHardwareResetEnd]
    split <;> exact leaves_next.2 rfl
  | recordDamage tag c =>
    simp only [exec, execRecordDamage]
    split <;> exact leaves_next.2 rfl
  | tinSignalPresent =>
    simp only [exec, execTinSignalPresent]
    split <;> exact leaves_next.2 rfl
  | tinSignalLost begun =>
    simp only [exec, execTinSignalLost]
    split <;> exact leaves_next.2 rfl
  | tinArrival bytes =>
    simp only [exec, execTinArrival]
    split
    · exact leaves_next.2 (s.ownView_trunkArrive bytes)
    · exact leaves_next.2 rfl
  | noticeAck => exact execNoticeAck_ownView s
  | write v =>
    simp only [exec, execWrite]
    split
    · exact leaves_next.2 (s.ownView_writeVerified _ _ v)
    · exact leaves_next.2 rfl
  | clear v =>
    simp only [exec, execClear]
    split
    · exact leaves_next.2 (s.ownView_writeVerified _ _ v)
    · exact leaves_next.2 rfl
  | refill v =>
    simp only [exec, execRefill]
    split
    · exact leaves_next.2 (s.ownView_applyDecided _ _ _ v)
    · exact leaves_next.2 rfl
  | bar v =>
    simp only [exec, execBar]
    split
    · exact leaves_next.2 (s.ownView_applyDecided _ _ _ v)
    · exact leaves_next.2 rfl
  | unbar v =>
    simp only [exec, execUnbar]
    split
    · exact leaves_next.2 (s.ownView_applyDecided _ _ _ v)
    · exact leaves_next.2 rfl
  | clearBank vs =>
    simp only [exec, execClearBank]
    split
    · exact leaves_next.2 (s.ownView_applyClearBank _ _ vs)
    · exact leaves_next.2 rfl
  | startUpClear v => exact execStartUpClear_ownView v s
  | toutOpportunity order => exact execToutOpportunity_ownView order s
  | portSignalPresent n =>
    simp only [exec, execPortSignalPresent]
    split
    · exact leaves_next.2 rfl
    · exact leaves_next.2 ((State.ownView_tryAlign _ n).trans (s.ownView_onPort n _))
  | portSignalLost n begun => exact execPortSignalLost_ownView n begun s
  | portArrival n bytes =>
    simp only [exec, execPortArrival]
    split
    · exact leaves_next.2 (s.ownView_portArrive n bytes)
    · exact leaves_next.2 rfl
  | align n =>
    simp only [exec, execAlign]
    split
    · exact leaves_next.2 (State.ownView_onAlign _ n)
    · exact leaves_next.2 rfl
  | alignAck n token =>
    simp only [exec, execAlignAck]
    split
    · exact leaves_next.2 (State.ownView_onAlignAck _ n token)
    · exact leaves_next.2 rfl
  | credit n amount =>
    simp only [exec, execCredit]
    split
    · exact leaves_next.2 (State.ownView_onCredit _ n amount)
    · exact leaves_next.2 rfl
  | portOpportunity n =>
    simp only [exec, execPortOpportunity]
    split
    · exact leaves_next.2 rfl
    · exact leaves_next.2 (s.ownView_portOpportunity n)
  | resendTimerExpiry n =>
    simp only [exec, execResendTimerExpiry]
    split <;> exact leaves_next.2 rfl
  | stallTimerExpiry n =>
    simp only [exec, execStallTimerExpiry]
    split <;> exact leaves_next.2 rfl
  | silenceTimeout n =>
    simp only [exec, execSilenceTimeout]
    split
    · refine leaves_next.2 ((State.ownView_tryAlign _ n).trans ?_)
      rw [State.ownView_countPort, State.ownView_leaveFor]
    · exact leaves_next.2 rfl
  | ackTimerExpiry => exact execAckTimerExpiry_ownView s
  | eventReport b =>
    simp only [exec, execEventReport]
    split
    · exact leaves_next.2 (State.ownView_takeReport _ _)
    · exact leaves_next.2 rfl
  | _ => cases h

theorem inReset_ownStands (table : Table) (unitNumber : BitVec 32) (past : List OriginPast) (draws : Nat)
    (pending : List Instr) : OwnStands none (State.inReset table unitNumber past draws pending) := by
  obtain ⟨h1, h2, h3, h4⟩ : Settings.reset.hopLimit ≠ 0 ∧ 10 ≤ Settings.reset.ackTimeout.toNat ∧
      Settings.reset.ackTimeout.toNat ≤ 1000 ∧ Settings.reset.leasePeriod ≠ 0 := by decide
  refine ⟨⟨Nat.zero_le _, fun _ => rfl⟩, ⟨fun hc => ?_, fun _ => rfl⟩, fun hn => absurd rfl hn,
    ⟨Nat.zero_le _, List.nodup_nil, nofun, nofun, nofun⟩, h1, h2, h3, h4, nofun⟩
  exact absurd hc (not_committed_of_none rfl)

theorem execBankEnd_ownStands {s : State} (h : OwnStands none s) : Leaves (execBankEnd s) (OwnStands none) := by
  unfold execBankEnd
  split
  · rename_i hc
    split
    · exact leaves_next.2 (h.bankEnd hc.2.1 _)
    · exact leaves_next.2 h
  · exact leaves_next.2 h

theorem execLeaseTimerExpiry_ownStands {s : State} (h : OwnStands none s) :
    Leaves (execLeaseTimerExpiry s) (OwnStands none) := by
  have hlost (hc : ¬s.batch.committed) : OwnStands none { s.discardOpen with lease := .free } :=
    h.discardOpen.leaseFree (State.discardOpen_state hc)
  unfold execLeaseTimerExpiry
  split
  · rename_i o k _ hl
    have hover : OwnStands none { s with lease := .overdue o } := h.withLease (fun _ => by rw [hl]; rfl) nofun
    split
    · exact leaves_next.2 ((hlost (not_committed_of_none ‹_›)).congr rfl)
    · exact leaves_next.2 ((hlost (not_committed_of_opened ‹_›)).congr rfl)
    · exact leaves_next.2 hover
    · exact leaves_next.2 hover
  · exact leaves_next.2 h

theorem exec_ownStands (i : Instr) {s : State} (h : OwnStands none s) : Leaves (exec i s) (OwnStands none) := by
  cases i with
  | hardwareReset => exact leaves_next.2 (inReset_ownStands _ _ _ _ _)
  | unknownRequest => exact leaves_next.2 (h.takeRequest fun _ _ _ he => .answer he.stands _ _)
  | nodeQuery => exact leaves_next.2 (h.takeRequest fun _ _ _ he => handleNodeQuery_concluding he.stands)
  | countersRead => exact leaves_next.2 (h.takeRequest fun _ _ _ he => handleCountersRead_concluding he.stands)
  | entryRead => exact leaves_next.2 (h.takeRequest fun _ _ _ he => handleEntryRead_concluding he.stands)
  | tableScan => exact leaves_next.2 (h.takeRequest fun _ _ _ he => handleTableScan_concluding he.stands)
  | queueQuery => exact leaves_next.2 (h.takeRequest fun _ _ _ he => handleQueueQuery_concluding he.stands)
  | portQuery => exact leaves_next.2 (h.takeRequest fun _ _ _ he => handlePortQuery_concluding he.stands)
  | nodeSet => exact leaves_next.2 (h.takeRequest fun _ _ _ he => handleNodeSet_concluding he.stands)
  | queueSet => exact leaves_next.2 (h.takeRequest fun _ _ _ he => handleQueueSet_concluding he.stands)
  | queueFlush => exact leaves_next.2 (h.takeRequest fun _ _ _ he => handleQueueFlush_concluding he.stands)
  | portSet => exact leaves_next.2 (h.takeRequest fun _ _ _ he => handlePortSet_concluding he.stands)
  | countersClear => exact leaves_next.2 (h.takeRequest fun _ _ _ he => handleCountersClear_concluding he.stands)
  | nodeReset => exact leaves_next.2 (h.takeRequest fun _ _ _ he => handleNodeReset_concluding he.stands)
  | assignAddress => exact leaves_next.2 (h.takeRequest fun _ _ _ he => handleAssignAddress_concluding he.stands)
  | batchOpen =>
    exact leaves_next.2 (h.takeRequest fun _ _ hm he => handleBatchOpen_concluding he.stands (he.leased hm rfl))
  | batchEdit => exact leaves_next.2 (h.takeRequest fun _ _ _ he => handleBatchEdit_concluding he.stands)
  | batchCommit => exact leaves_next.2 (h.takeRequest fun _ _ hm he => handleBatchCommit_concluding he (he.leased hm rfl))
  | batchAbort => exact leaves_next.2 (h.takeRequest fun _ _ _ he => handleBatchAbort_concluding he.stands)
  | leaseTake => exact leaves_next.2 (h.takeRequest fun _ _ _ he => handleLeaseTake_concluding he.stands)
  | leaseRenew => exact leaves_next.2 (h.takeRequest fun _ _ _ he => handleLeaseRenew_concluding he.stands)
  | leaseGive => exact leaves_next.2 (h.takeRequest fun _ _ _ he => handleLeaseGive_concluding he.stands)
  | applyStart =>
    simp only [exec, execApplyStart]
    split
    · exact leaves_next.2 h
    · exact leaves_next.2 h.tryStart
  | bankEnd => exact execBankEnd_ownStands h
  | holdQueueDrain =>
    simp only [exec, execHoldQueueDrain]
    split
    · exact leaves_next.2 (OwnStands.tryStart (h.congr (State.ownView_lookup _ _)))
    · exact leaves_next.2 h
  | leaseTimerExpiry => exact execLeaseTimerExpiry_ownStands h
  | _ => exact Leaves.mono (exec_ownView rfl s) fun _ ht => h.congr ht

/-- Settles O5: each command keeps the view that the laws look at, or moves the batch, the lease and the origin table
together; a request leaves the entry of its origin to be settled by its response. -/
theorem everyStepKeepsTheBatchAndLeaseLaws : Obligations.EveryStepKeepsTheBatchAndLeaseLaws := by
  unfold Obligations.EveryStepKeepsTheBatchAndLeaseLaws
  intro s t hstaging hownership hsettings hstep
  have ht : OwnStands none t := step_keeps (fun i _ h => exec_ownStands i h) (fun _ _ h => h.congr rfl)
    ((ownLaws_iff s).1 ⟨hstaging, hownership, hsettings⟩) hstep
  exact (ownLaws_iff t).2 ht

end Sys2Proof.Machine
end

section
namespace Sys2Proof.Machine

/-! ## Requests that reach their block: the one argument for O46, O48, O51 and O52 -/

/-! ### What entering a request leaves alone (R142, R144) -/

section
variable (s : State) (m : HandCell) (rest : List HandCell)

@[simp] theorem State.entered_batch : (s.entered m rest).batch = s.batch := by rw [s.entered_sameBlocks m rest]

@[simp] theorem State.entered_queues : (s.entered m rest).queues = s.queues := by rw [s.entered_sameBlocks m rest]

@[simp] theorem State.entered_lease : (s.entered m rest).lease = s.lease := by rw [s.entered_sameBlocks m rest]

@[simp] theorem State.entered_notices : (s.entered m rest).notices = s.notices := by rw [s.entered_sameBlocks m rest]

@[simp] theorem State.entered_settings : (s.entered m rest).agent.settings = s.agent.settings := by
  rw [s.entered_sameBlocks m rest]

@[simp] theorem State.entered_address : (s.entered m rest).agent.address = s.agent.address := by
  rw [s.entered_sameBlocks m rest]

@[simp] theorem State.entered_queue (q : QueueId) : (s.entered m rest).queue q = s.queue q :=
  State.queue_of_queues (s.entered_queues m rest) q

@[simp] theorem State.entered_bank (b : BankId) : (s.entered m rest).bank b = s.bank b :=
  State.bank_of_banks (s.entered_sameBlocks m rest).frame.banks b

@[simp] theorem State.entered_port (n : PortId) : (s.entered m rest).port n = s.port n :=
  State.port_of_ports (s.entered_sameBlocks m rest).frame.ports n

@[simp] theorem State.entered_record (n : Nat) : (s.entered m rest).record n = s.record n :=
  State.record_of_table (s.entered_sameBlocks m rest).frame.table n

end

/-! ### Served from the block's answer -/

/-- The cells in the Agent's hands stay, and each entry of the origin table keeps its origin and its last sequence. -/
structure EntriesKept (s t : State) : Prop where
  hands : t.agent.hands = s.agent.hands
  origins : ∃ f : OriginEntry → OriginEntry, (∀ e, (f e).origin = e.origin ∧ (f e).lastSeq = e.lastSeq) ∧
    t.agent.origins = s.agent.origins.map f

theorem EntriesKept.of_eq {s t : State} (h : t.agent = s.agent) : EntriesKept s t :=
  ⟨by rw [h], id, fun _ => ⟨rfl, rfl⟩, by rw [h, List.map_id]⟩

theorem EntriesKept.entryOf {s t : State} (h : EntriesKept s t) {o : Origin} {x : OriginEntry} (hx : s.entryOf o = some x) :
    ∃ y, t.entryOf o = some y ∧ y.lastSeq = x.lastSeq := by
  obtain ⟨-, f, hf, ho⟩ := h
  have hp : (fun e : OriginEntry => decide (e.origin = o)) ∘ f = fun e => decide (e.origin = o) := by
    funext e
    simp only [Function.comp, (hf e).1]
  refine ⟨f x, ?_, (hf x).2⟩
  rw [State.entryOf] at hx ⊢
  rw [ho, List.find?_map, hp, hx]
  rfl

/-- Which requests of the catalogue need the lease on every node (R151). -/
theorem State.needsLease_of_leased (s : State) {code : Byte} (h : leaseCodes.contains code = true) :
    s.needsLease code = true := by rw [State.needsLease, h, Bool.true_or]

section
variable {i : Instr} {code : Byte} {handler : Request → State → State × Reply} {s : State} {m : HandCell}
  {rest : List HandCell} {leased : Bool} {st : Status} {body : List Byte}

/-- A request whose block has an effect that takes no request out of the Agent's hands and keeps the last sequences. -/
theorem serves_effect (he : exec i s = .next (s.takeRequest (isCode code) handler))
    (hcat : catalogue.contains code = true) (hl : s.needsLease code = leased) (ht : Takes s m rest code) (hr : Reaches s m)
    {effect : State → State}
    (hh : handler m.request (s.entered m rest) = (effect (s.entered m rest), .answer st body))
    (hsame : SameBlocks (effect s) (effect (s.entered m rest)))
    (hkept : EntriesKept (s.entered m rest) (effect (s.entered m rest))) :
    Serves i s leased effect m.request st body := by
  obtain ⟨x, hx, hseq, -⟩ := s.entered_entry m rest
  obtain ⟨y, hy, hlast⟩ := hkept.entryOf hx
  have hserves := takeRequest_serves (mine := isCode code) ht hr (decide_eq_true rfl) hcat hh hsame
    (hkept.hands.trans (s.entered_hands m rest)) ⟨y, hy, hlast.trans hseq⟩
  rw [← hl]
  exact ⟨he.trans (congrArg _ hserves.1), hserves.2⟩

/-- A request whose block answers it without an effect. -/
theorem serves_unchanged (he : exec i s = .next (s.takeRequest (isCode code) handler))
    (hcat : catalogue.contains code = true) (hl : s.needsLease code = leased) (ht : Takes s m rest code) (hr : Reaches s m)
    (hh : handler m.request (s.entered m rest) = (s.entered m rest, .answer st body)) :
    Serves i s leased id m.request st body :=
  serves_effect he hcat hl ht hr hh (s.entered_sameBlocks m rest) (.of_eq rfl)

end

/-! ## O54: the expiry of the lease timer -/

theorem leaseLost_subject (o : Origin) :
    o.code.setWidth 16 = match o with | .trunk a => a.setWidth 16 | .localMgr => (254 : BitVec 16) := by
  cases o <;> rfl

/-- Settles O54: the batch state decides what the expiry of a HELD lease does. -/
theorem leaseExpiryFollowsTheBatch : Obligations.LeaseExpiryFollowsTheBatch := by
  unfold Obligations.LeaseExpiryFollowsTheBatch
  intro o k s hh hl lost
  have hlost : [{ block := .leaseLogic, report := leaseLost o 1 }] = lost := by
    simp only [leaseLost, leaseLost_subject, lost] <;> cases o <;> rfl
  have hexec : exec .leaseTimerExpiry s =
      match s.batch.state with
      | .none | .opened => .next { s.discardOpen with lease := .free, handed := s.discardOpen.handed ++ lost }
      | .waiting | .applying => .next { s with lease := .overdue o } := by
    rw [← hlost]
    simp only [exec, execLeaseTimerExpiry, hh, hl] <;> rfl
  refine ⟨fun hn => ?_, fun ho => ?_, fun hc => ?_⟩
  · have hkept : s.discardOpen = s := if_neg (by simp [hn])
    rw [hexec, hn, hkept]
  · have hended : s.discardOpen = s.discardBatch := if_pos ho
    rw [hexec, ho, hended]
    rfl
  · rcases hc with hc | hc <;> rw [hexec, hc]

/-! ## O51: BATCH_OPEN and BATCH_EDIT -/

/-- The batch state and id of an answer, written out (R44, R45, R48). -/
theorem Batch.stateAndId_eq (b : Batch) :
    b.stateAndId = [match b.state with | .none => 0 | .opened => 1 | .waiting => 2 | .applying => 3, b.id] := by
  cases h : b.state <;> simp [Batch.stateAndId, BatchState.code, h]

theorem handleBatchOpen_malformed {r : Request} (s : State) (h : r.body.length ≠ 2) : handleBatchOpen r s = malformed s := by
  unfold handleBatchOpen
  split
  · rename_i hb
    simp [hb] at h
  · rfl

/-- The hold policies by their codes (R44). -/
theorem policyOfCode_eq (code : Byte) :
    policyOfCode code = if code.toNat ≤ 2 then
      some (if code = 0 then .hold else if code = 1 then .pass else .discard) else none := by
  have h2 : code.toNat ≤ 2 ↔ code = 0 ∨ code = 1 ∨ code = 2 := by
    simp only [← BitVec.toNat_inj, BitVec.ofNat_eq_ofNat, BitVec.toNat_ofNat]
    omega
  simp only [policyOfCode, h2]
  split_ifs <;> simp_all

theorem handleBatchOpen_body {r : Request} {s : State} {bid code : Byte} (hb : r.body = [bid, code]) :
    handleBatchOpen r s =
      if bid = 0 ∨ 2 < code.toNat then outOfRange s
      else match s.batch.state with
        | .none => ({ s with batch := { s.batch with
            state := .opened, id := bid, staging := []
            policy := some (if code = 0 then .hold else if code = 1 then .pass else .discard) } }, .answer .ok [bid, code])
        | .opened => (s, .answer .batchOpen [s.batch.id, BitVec.ofNat 8 s.batch.staging.length])
        | .waiting | .applying => (s, .answer .busy s.batch.stateAndId) := by
  simp only [handleBatchOpen, hb, policyOfCode_eq]
  by_cases hc : code.toNat ≤ 2 <;> by_cases h0 : bid = 0 <;> simp [hc, h0, Nat.not_lt.2, Nat.not_le.1] <;>
    split <;> rfl

/-- The images of a body of images of twelve bytes each are those images (R45). -/
theorem take_drop_flatten {images : List Image} (h12 : ∀ i ∈ images, i.length = 12) {k : Nat} (hk : k < images.length) :
    (images.flatten.drop (12 * k)).take 12 = images[k] := by
  induction images generalizing k with
  | nil => simp at hk
  | cons i rest ih =>
    rw [List.forall_mem_cons] at h12
    obtain ⟨hi, hrest⟩ := h12
    cases k with
    | zero => simp [List.take_append_of_le_length hi.ge, List.take_of_length_le hi.le]
    | succ k =>
      have hd : (i ++ rest.flatten).drop (12 * (k + 1)) = rest.flatten.drop (12 * k) := by
        rw [List.drop_append, List.drop_of_length_le (by omega), List.nil_append, hi]
        congr 1
      rw [List.flatten_cons, hd]
      simpa using ih hrest (Nat.lt_of_succ_lt_succ hk)

theorem length_flatten_images {images : List Image} (h12 : ∀ i ∈ images, i.length = 12) :
    images.flatten.length = 12 * images.length := by
  rw [List.length_flatten, List.map_congr_left h12, List.map_const', List.sum_replicate, smul_eq_mul, Nat.mul_comm]

theorem imagesOf_flatten (bid : Byte) {images : List Image} (h12 : ∀ i ∈ images, i.length = 12) :
    imagesOf (bid :: images.flatten) = images := by
  have hlen : ((bid :: images.flatten).length - 1) / 12 = images.length := by
    rw [List.length_cons, length_flatten_images h12]
    omega
  refine List.ext_getElem (by simp only [imagesOf, hlen, List.length_map, List.length_range]) fun k hk hk' => ?_
  simpa [imagesOf, Nat.add_comm 1] using take_drop_flatten h12 hk'

/-- The checks of BATCH-EDIT in their order, for a body of one to four images (R45 to R47). -/
theorem handleBatchEdit_body {r : Request} {s : State} {bid : Byte} {images : List Image}
    (hb : r.body = bid :: images.flatten) (h12 : ∀ i ∈ images, i.length = 12) (hlow : 1 ≤ images.length)
    (hhigh : images.length ≤ 4) : handleBatchEdit r s =
      if s.batch.state ≠ .opened ∨ bid ≠ s.batch.id then (s, .answer .noBatch s.batch.stateAndId)
      else match firstInvalid images with
        | some k => (s, .answer .range [BitVec.ofNat 8 k])
        | none =>
          if 64 < s.batch.staging.length + images.length then
            (s, .answer .full [BitVec.ofNat 8 s.batch.staging.length])
          else ({ s with batch := { s.batch with staging := s.batch.staging ++ images } },
            .answer .ok [s.batch.id, BitVec.ofNat 8 (s.batch.staging.length + images.length)]) := by
  have hlen : r.body.length = 12 * images.length + 1 := by simp [hb, length_flatten_images h12]
  have hfits : r.body.length = 13 ∨ r.body.length = 25 ∨ r.body.length = 37 ∨ r.body.length = 49 := by omega
  have himages : imagesOf r.body = images := hb ▸ imagesOf_flatten bid h12
  have hbid : byteAt r.body 0 = bid := by rw [hb]; rfl
  simp only [handleBatchEdit, hfits, not_true_eq_false, if_false, himages, hbid, List.length_append] <;> rfl

theorem firstInvalid_none {images : List Image} (h : ∀ i ∈ images, editOf i ≠ none) : firstInvalid images = none := by
  simpa [firstInvalid, Option.isSome_iff_ne_none] using h

theorem firstInvalid_some {images : List Image} {k : Nat} {i : Image} (hk : images[k]? = some i) (hi : editOf i = none)
    (hlow : ∀ j < k, ∀ x, images[j]? = some x → editOf x ≠ none) : firstInvalid images = some k := by
  obtain ⟨hlt, rfl⟩ := List.getElem?_eq_some_iff.1 hk
  refine List.findIdx?_eq_some_iff_getElem.2 ⟨hlt, by simp [hi], fun j hj => ?_⟩
  simpa [Option.isSome_iff_ne_none] using hlow j hj _ (List.getElem?_eq_getElem (hj.trans hlt))

/-- Settles O51: each answer is that of the handler's checks in their order. -/
theorem batchesAreOpenedAndStaged : Obligations.BatchesAreOpenedAndStaged := by
  unfold Obligations.BatchesAreOpenedAndStaged
  intro m rest s hr r stateAndId
  have hstate : s.batch.stateAndId = stateAndId := s.batch.stateAndId_eq
  refine ⟨fun ht => ?_, fun ht => ?_⟩
  · have unchanged {st : Status} {body : List Byte} (hh : handleBatchOpen r (s.entered m rest) = _) :
        Serves .batchOpen s true id r st body :=
      serves_unchanged rfl rfl (s.needsLease_of_leased rfl) ht hr hh
    refine ⟨fun hb => unchanged (handleBatchOpen_malformed _ hb), fun bid code hb => ?_⟩
    have hbody := handleBatchOpen_body (s := s.entered m rest) hb
    rw [State.entered_batch] at hbody
    refine ⟨fun hrange => unchanged (by rw [hbody, if_pos hrange]; rfl), fun hid hcode => ?_⟩
    rw [if_neg (by rintro (h | h); exacts [hid h, absurd h (Nat.not_lt.2 hcode)])] at hbody
    refine ⟨fun hn => ?_, fun ho => unchanged (by simp only [hbody, ho]), fun hc => unchanged ?_⟩
    · refine serves_effect rfl rfl (s.needsLease_of_leased rfl) ht hr (handler := handleBatchOpen) ?_ ?_ (.of_eq rfl)
      · refine hbody.trans ?_
        simp only [hn, State.entered_batch]
      · rw [s.entered_sameBlocks m rest]; rfl
    · rcases hc with hc | hc <;> simp only [hbody, hc, hstate]
  · have unchanged {st : Status} {body : List Byte} (hh : handleBatchEdit r (s.entered m rest) = _) :
        Serves .batchEdit s true id r st body :=
      serves_unchanged rfl rfl (s.needsLease_of_leased rfl) ht hr hh
    refine ⟨fun hb => unchanged ?_, fun bid images hb h12 hlow hhigh => ?_⟩
    · rw [handleBatchEdit, if_pos (by simpa using hb)]
      rfl
    have hbody := handleBatchEdit_body (s := s.entered m rest) hb h12 hlow hhigh
    rw [State.entered_batch] at hbody
    refine ⟨fun hn => unchanged (by rw [hbody, if_pos hn, hstate]), fun ho hid => ?_⟩
    rw [if_neg (by simp [ho, hid])] at hbody
    refine ⟨fun k i hk hi hfirst => unchanged (by rw [hbody, firstInvalid_some hk hi hfirst]),
      fun hv hfull => unchanged ?_, fun hv hroom => ?_⟩
    · simp only [hbody, firstInvalid_none hv, if_pos hfull]
    · refine serves_effect rfl rfl (s.needsLease_of_leased rfl) ht hr (handler := handleBatchEdit) ?_ ?_ (.of_eq rfl)
      · rw [hid]
        simpa only [firstInvalid_none hv, if_neg (Nat.not_lt.2 hroom), State.entered_batch] using hbody
      · rw [s.entered_sameBlocks m rest]; rfl

end Sys2Proof.Machine
end

section
namespace Sys2Proof.Machine

/-! ## O46: ENTRY_READ and TABLE_SCAN -/

theorem State.needsLease_reading (s : State) {code : Byte} (h : leaseCodes.contains code = false) (hc : code ≠ 0x16) :
    s.needsLease code = false := by
  rw [State.needsLease, h, decide_eq_false hc]
  rfl

theorem tagField_usable_eq {w : BitVec 16} (h : w.toNat ≤ 4094) : tagField w = some (w.setWidth 12) := by
  rw [tagField, if_pos h, BitVec.setWidth_eq_extractLsb' (by decide)]

theorem tagField_out {w : BitVec 16} (h : 4094 < w.toNat) : tagField w = none := by rw [tagField, if_neg (Nat.not_le.2 h)]

theorem toNat_setWidth_tag {w : BitVec 16} (h : w.toNat ≤ 4094) : (w.setWidth 12 : Tag).toNat = w.toNat := by
  rw [BitVec.toNat_setWidth, Nat.mod_eq_of_lt (by omega)]

/-- The bank of a tag by its number (R1). -/
theorem bankOf_eq (t : Tag) : bankOf t = Fin.ofNat 4 (t.toNat / 1024) := by
  have ht := t.isLt
  refine Fin.ext ?_
  simp only [bankOf, BitVec.toFin_extractLsb', Fin.val_ofNat, Nat.shiftRight_eq_div_pow]

theorem handleEntryRead_malformed {r : Request} (s : State) (h : r.body.length ≠ 2) : handleEntryRead r s = malformed s := by
  unfold handleEntryRead
  split
  · rename_i hb
    simp [hb] at h
  · rfl

theorem handleTableScan_malformed {r : Request} (s : State) (h : r.body.length ≠ 2) : handleTableScan r s = malformed s := by
  unfold handleTableScan
  split
  · rename_i hb
    simp [hb] at h
  · rfl

/-! ### The scan (R73, R74) -/

section
variable (s : State)

/-- The tags in use from `start` to before `next`. -/
def State.tagsFrom (start next : Nat) : List Nat := (List.range' start (next - start)).filter s.inUse

theorem State.tagsFrom_succ {start n : Nat} (h : start ≤ n) :
    s.tagsFrom start (n + 1) = s.tagsFrom start n ++ if s.inUse n then [n] else [] := by
  have hr : List.range' start (n + 1 - start) = List.range' start (n - start) ++ [n] := by
    rw [Nat.succ_sub h, List.range'_1_concat, Nat.add_sub_cancel' h]
  simp only [State.tagsFrom, hr, List.filter_append, List.filter_cons, List.filter_nil]

/-- How a scan from `start` ends, before `next`: at a bank that is UPDATING, with 24 tags, or at the end of the table. -/
inductive ScanEnds (start : Nat) : List Nat × Nat × Bool → Prop where
  | stopped (n : Nat) (hs : start ≤ n) (hn : n < 4095) (hclear : ∀ k, start ≤ k → k < n → s.bank (bankOfNat k) ≠ .updating)
      (hb : s.bank (bankOfNat n) = .updating) (hlen : (s.tagsFrom start n).length < 24) :
      ScanEnds start (s.tagsFrom start n, 1024 * (n / 1024), true)
  | full (n : Nat) (hs : start ≤ n) (hn : n < 4095)
      (hclear : ∀ k, start ≤ k → k < n + 1 → s.bank (bankOfNat k) ≠ .updating) (hu : s.inUse n = true)
      (hlen : (s.tagsFrom start (n + 1)).length = 24) : ScanEnds start (s.tagsFrom start (n + 1), n + 1, false)
  | ended (hclear : ∀ k, start ≤ k → k < 4095 → s.bank (bankOfNat k) ≠ .updating)
      (hlen : (s.tagsFrom start 4095).length < 24) : ScanEnds start (s.tagsFrom start 4095, 4095, false)

/-- A scan that has come to `n` ends in one of these ways. -/
theorem scanFrom_ends {start : Nat} (fuel n : Nat) (found : List Nat) (hf : n + fuel = 4095) (hs : start ≤ n)
    (hclear : ∀ k, start ≤ k → k < n → s.bank (bankOfNat k) ≠ .updating) (hfound : found.reverse = s.tagsFrom start n)
    (hlen : found.length < 24) : ScanEnds s start (scanFrom s fuel n found) := by
  induction fuel generalizing n found with
  | zero =>
    obtain rfl : n = 4095 := hf
    rw [scanFrom, hfound]
    exact .ended hclear (by rwa [← hfound, List.length_reverse])
  | succ fuel ih =>
    have hlen' : (s.tagsFrom start n).length = found.length := by rw [← hfound, List.length_reverse]
    have hsucc := s.tagsFrom_succ hs
    rw [scanFrom]
    split
    · rename_i hb
      rw [hfound]
      exact .stopped n hs (by omega) hclear hb (hlen'.trans_lt hlen)
    · rename_i hb
      have hclear' : ∀ k, start ≤ k → k < n + 1 → s.bank (bankOfNat k) ≠ .updating := fun k h1 h2 =>
        (Nat.lt_succ_iff_lt_or_eq.1 h2).elim (hclear k h1) fun he => he ▸ hb
      split
      · rename_i hu
        rw [if_pos hu, ← hfound, ← List.reverse_cons] at hsucc
        split
        · rename_i h23
          rw [← hsucc]
          refine .full n hs (by omega) hclear' hu ?_
          rw [hsucc, List.length_reverse, List.length_cons, h23]
        · exact ih (n + 1) (n :: found) (by omega) (by omega) hclear' hsucc.symm (by rw [List.length_cons]; omega)
      · rename_i hu
        rw [if_neg hu, List.append_nil, ← hfound] at hsucc
        exact ih (n + 1) found (by omega) (by omega) hclear' hsucc.symm hlen

/-- An UPDATING bank stands before the first tag in use, so that a scan finds nothing (R74). -/
def State.scanStuck (start : Nat) : Prop :=
  ∃ n, start ≤ n ∧ n < 4095 ∧ s.bank (bankOfNat n) = .updating ∧ ∀ k, start ≤ k → k < n → s.inUse k = false

theorem State.tagsFrom_eq_nil {start n : Nat} : s.tagsFrom start n = [] ↔ ∀ k, start ≤ k → k < n → s.inUse k = false := by
  simp only [State.tagsFrom, List.filter_eq_nil_iff, List.mem_range'_1, Bool.not_eq_true]
  exact forall_congr' fun k => ⟨fun h h1 h2 => h ⟨h1, by omega⟩, fun h hk => h hk.1 (by omega)⟩

/-- A bank begins where the tag before is of another bank. -/
theorem bank_begins {n : Nat} (h : s.bank (bankOfNat n) = .updating) (hb : s.bank (bankOfNat (n - 1)) ≠ .updating) :
    n % 1024 = 0 := by
  by_contra hne
  have : (n - 1) / 1024 = n / 1024 := by omega
  exact hb (by rw [bankOfNat, this]; exact h)

end

/-- What TABLE-SCAN answers: BUSY when the scan is stuck, and otherwise the tags before the place it came to (R73, R74). -/
theorem tableScan_answer (s : State) {start : Nat} (hs : start ≤ 4094) :
    (s.scanStuck start → ∃ next, scanFrom s (4095 - start) start [] = ([], next, true)) ∧
    (¬s.scanStuck start → ∃ next stop, scanFrom s (4095 - start) start [] = (s.tagsFrom start next, next, stop) ∧
      (stop = true → s.tagsFrom start next ≠ []) ∧ start < next ∧ next ≤ 4095 ∧
      (∀ k, start ≤ k → k < next → s.bank (bankOfNat k) ≠ .updating) ∧ (s.tagsFrom start next).length ≤ 24 ∧
      ((s.tagsFrom start next).length = 24 → s.inUse (next - 1) = true) ∧
      ((s.tagsFrom start next).length < 24 → next = 4095 ∨ next % 1024 = 0 ∧ s.bank (bankOfNat next) = .updating)) := by
  have hends := scanFrom_ends s (start := start) (4095 - start) start [] (by omega) (Nat.le_refl _)
    (fun k h1 h2 => absurd h2 (Nat.not_lt.2 h1)) (by simp [State.tagsFrom]) (by simp)
  generalize scanFrom s (4095 - start) start [] = out at hends
  cases hends with
  | stopped n hsn hn hclear hb hlen =>
    refine ⟨fun ⟨k, hk1, _, hk3, hk4⟩ => ?_, fun hfree => ?_⟩
    · have hnil : s.tagsFrom start n = [] := (s.tagsFrom_eq_nil).2 fun j hj1 hj2 => by
        refine hk4 j hj1 (by_contra fun hjk => hclear k hk1 (by omega) hk3)
      exact ⟨_, by rw [hnil]⟩
    · have hsome : s.tagsFrom start n ≠ [] := fun hnil => hfree ⟨n, hsn, hn, hb, (s.tagsFrom_eq_nil).1 hnil⟩
      have hlt : start < n := lt_of_le_of_ne hsn fun he => hsome (by simp [State.tagsFrom, he])
      have hmod := bank_begins s hb (hclear (n - 1) (by omega) (by omega))
      have hnext : 1024 * (n / 1024) = n := by omega
      exact ⟨n, true, by rw [hnext], fun _ => hsome, hlt, hn.le, hclear, hlen.le, fun h => absurd h hlen.ne,
        fun _ => .inr ⟨hmod, hb⟩⟩
  | full n hsn hn hclear hu hlen =>
    refine ⟨fun ⟨k, hk1, _, hk3, hk4⟩ => ?_, fun _ => ?_⟩
    · have hused : n < k := by_contra fun hkn => hclear k hk1 (by omega) hk3
      rw [hk4 n hsn hused] at hu
      cases hu
    · exact ⟨n + 1, false, rfl, nofun, by omega, by omega, hclear, hlen.le, fun _ => hu, fun h => absurd h (by omega)⟩
  | ended hclear hlen =>
    refine ⟨fun ⟨k, hk1, hk2, hk3, _⟩ => absurd hk3 (hclear k hk1 hk2), fun _ => ?_⟩
    exact ⟨4095, false, rfl, nofun, by omega, Nat.le_refl _, hclear, hlen.le, fun h => absurd h hlen.ne, fun _ => .inl rfl⟩

theorem scanFrom_congr {s t : State} (hb : ∀ b, t.bank b = s.bank b) (hr : ∀ n, t.record n = s.record n)
    (fuel n : Nat) (found : List Nat) : scanFrom t fuel n found = scanFrom s fuel n found := by
  induction fuel generalizing n found with
  | zero => rfl
  | succ fuel ih =>
    have hused : t.inUse n = s.inUse n := by rw [State.inUse, hr]; rfl
    rw [scanFrom, hb, hused, ih, ih]
    rfl

/-- Settles O46: each answer is that of the handler's checks in their order, with the scan's end read off its invariant. -/
theorem theTableIsRead : Obligations.TheTableIsRead := by
  unfold Obligations.TheTableIsRead
  intro m rest s hr r inUse updating
  have hbank (b : BankId) := s.entered_bank m rest b
  have hrecord (n : Nat) := s.entered_record m rest n
  refine ⟨fun ht => ?_, fun ht => ?_⟩
  · have unchanged {st : Status} {body : List Byte}
        (hh : handleEntryRead r (s.entered m rest) = (s.entered m rest, .answer st body)) :
        Serves .entryRead s false id r st body :=
      serves_unchanged rfl rfl (s.needsLease_reading rfl (by decide)) ht hr hh
    refine ⟨fun hb => unchanged (handleEntryRead_malformed _ hb), fun hi lo hb => ?_⟩
    intro w
    have hw : word16 hi lo = w := rfl
    refine ⟨fun hout => unchanged ?_, fun hin hbusy => unchanged ?_, fun hin hfree => unchanged ?_⟩
    · simp only [handleEntryRead, hb, hw, tagField_out hout]
      rfl
    · have hup : s.bank (bankOf (w.setWidth 12)) = .updating := by
        rw [bankOf_eq, toNat_setWidth_tag hin]; exact hbusy
      simp only [handleEntryRead, hb, hw, tagField_usable_eq hin, hbank, hup, if_true]
    · have hup : s.bank (bankOf (w.setWidth 12)) ≠ .updating := by
        rw [bankOf_eq, toNat_setWidth_tag hin]; exact hfree
      simp only [handleEntryRead, hb, hw, tagField_usable_eq hin, hbank, hup, if_false, hrecord, toNat_setWidth_tag hin]
  · have unchanged {st : Status} {body : List Byte}
        (hh : handleTableScan r (s.entered m rest) = (s.entered m rest, .answer st body)) :
        Serves .tableScan s false id r st body :=
      serves_unchanged rfl rfl (s.needsLease_reading rfl (by decide)) ht hr hh
    refine ⟨fun hb => unchanged (handleTableScan_malformed _ hb), fun hi lo hb => ?_⟩
    intro start stuck
    have hw : (word16 hi lo).toNat = start := rfl
    refine ⟨fun hout => unchanged ?_, fun hin hstuck => unchanged ?_, fun hin hfree => ?_⟩
    · simp only [handleTableScan, hb, tagField_out (hw ▸ hout)]
      rfl
    all_goals
      have htag := tagField_usable_eq (hw ▸ hin)
      have hnat : ((word16 hi lo).setWidth 12 : Tag).toNat = start := (toNat_setWidth_tag (hw ▸ hin)).trans hw
    · obtain ⟨next, hscan⟩ := (tableScan_answer s hin).1 hstuck
      simp only [handleTableScan, hb, htag, hnat, scanFrom_congr hbank hrecord, hscan]
    · obtain ⟨next, stop, hscan, hstop, hlt, hle, hclear, hlen, hfull, hend⟩ := (tableScan_answer s hin).2 hfree
      refine ⟨next, hlt, hle, hclear, hlen, hfull, hend, unchanged ?_⟩
      simp only [handleTableScan, hb, htag, hnat, scanFrom_congr hbank hrecord, hscan]
      change _ = (_, Reply.answer .ok (natBytes16 next ++ (s.tagsFrom start next).flatMap natBytes16))
      generalize s.tagsFrom start next = tags at hstop ⊢
      cases tags with
      | nil =>
        cases stop with
        | false => rfl
        | true => exact absurd rfl (hstop rfl)
      | cons k ks => rfl

end Sys2Proof.Machine
end

section
namespace Sys2Proof.Machine

/-! ## O48: QUEUE_SET and QUEUE_FLUSH -/

/-! ### The sums over the queues (R75, R79) -/

theorem sum_map_toList {α : Type} {n : Nat} (v : Vector α n) (f : α → Nat) :
    (v.toList.map f).sum = ∑ k : Fin n, f v[k] := by
  rw [← List.sum_ofFn]
  congr 1
  exact List.ext_getElem (by simp) fun k hk hk' => by simp

theorem usedSlots_eq_sum (s : State) : usedSlots s.queues = ∑ k : QueueId, (s.queue k).entries.length :=
  sum_map_toList s.queues Queue.occupancy

theorem State.freeSlots_eq_sum (s : State) : s.freeSlots = 512 - ∑ k : QueueId, (s.queue k).entries.length := by
  rw [State.freeSlots, usedSlots_eq_sum]

theorem State.reserve_eq_sum (s : State) :
    s.reserve = ∑ k : QueueId, ((s.queue k).floor - (s.queue k).entries.length) := sum_map_toList s.queues Queue.unused

/-- The reserve after a floor is set (R88). -/
theorem State.reserve_setFloor (s : State) (q : QueueId) (floor ceiling : Nat) :
    (s.setQueue q { s.queue q with floor := floor, ceiling := ceiling }).reserve =
      ∑ k : QueueId, ((if k = q then floor else (s.queue k).floor) - (s.queue k).entries.length) := by
  rw [State.reserve_eq_sum]
  refine Finset.sum_congr rfl fun k _ => ?_
  rw [State.queue_setQueue]
  by_cases hk : k = q
  · subst hk; simp
  · simp [hk]

/-! ### The queues by their numbers (R76, R87) -/

theorem queueOfByte_out {b : Byte} (h : 14 < b.toNat) : queueOfByte b = none := dif_neg (by omega)

theorem queueOfByte_eq {b : Byte} {q : QueueId} (h : q.val = b.toNat) : queueOfByte b = some q := by
  have hlt : b.toNat < 15 := h ▸ q.isLt
  rw [queueOfByte, dif_pos hlt]
  exact congrArg some (Fin.ext h.symm)

theorem addQueuePort_isSome (q : QueueId) : (addQueuePort q).isSome = true ↔ 8 ≤ q.val ∧ q.val ≤ 11 := by
  unfold addQueuePort
  split
  · simp; omega
  · simp; omega

theorem addQueuePort_aq (n : PortId) : addQueuePort (aq n) = some n := by
  have hn := n.isLt
  rw [addQueuePort, dif_pos (by simp [aq]; omega)]
  exact congrArg some (Fin.ext (by simp [aq]))

/-- The credits that bear on a queue, as a sum over the ports (R88). -/
theorem State.creditsOn_eq_sum (s : State) (q : QueueId) :
    s.creditsOn q = ∑ n : PortId, if aq n = q then (s.port n).addCredits else 0 := by
  by_cases hq : ∃ n, aq n = q
  · obtain ⟨n, rfl⟩ := hq
    have hone (k : PortId) : aq k = aq n ↔ k = n := ⟨aq_injective, congrArg aq⟩
    simp [State.creditsOn, addQueuePort_aq, hone]
  · have hnone : addQueuePort q = none := by
      rw [← Option.not_isSome_iff_eq_none, addQueuePort_isSome]
      exact fun h => hq ⟨⟨q.val - 8, by omega⟩, Fin.ext (by simp [aq]; omega)⟩
    push Not at hq
    simp [State.creditsOn, hnone, hq]

theorem queueValuesOk_iff (q : QueueId) (floor ceiling : Nat) : queueValuesOk q floor ceiling = true ↔
    1 ≤ ceiling ∧ ceiling ≤ 512 ∧ floor ≤ ceiling ∧ ((q = 13 ∨ q = 14) → 2 ≤ floor) := by
  simp only [queueValuesOk, Bool.and_eq_true, Bool.or_eq_true, decide_eq_true_eq]
  simp only [mqt, mql]
  tauto

/-! ### The blocks' answers (R88, R90) -/

theorem handleQueueSet_malformed {r : Request} (s : State) (h : r.body.length ≠ 5) : handleQueueSet r s = malformed s := by
  unfold handleQueueSet
  split
  · rename_i hb
    simp [hb] at h
  · rfl

theorem handleQueueFlush_malformed {r : Request} (s : State) (h : r.body.length ≠ 1) :
    handleQueueFlush r s = malformed s := by
  unfold handleQueueFlush
  split
  · rename_i hb
    simp [hb] at h
  · rfl

section
variable {r : Request} {s : State} {b f1 f0 c1 c0 : Byte} {q : QueueId} {floor ceiling : Nat}

/-- The checks of QUEUE-SET in their order (R88), with the ceiling that it sets: of an add queue, its floor. -/
theorem handleQueueSet_body (hb : r.body = [b, f1, f0, c1, c0]) (hqb : queueOfByte b = some q)
    (hf : (word16 f1 f0).toNat = floor)
    (hc : (if 8 ≤ q.val ∧ q.val ≤ 11 then floor else (word16 c1 c0).toNat) = ceiling) :
    handleQueueSet r s =
      if ¬queueValuesOk q floor ceiling = true then outOfRange s
      else if ceiling < (s.queue q).entries.length then s.queueRefused b q 1
      else if s.freeSlots < (s.setQueue q { s.queue q with floor := floor, ceiling := ceiling }).reserve then
        s.queueRefused b q 2
      else if (8 ≤ q.val ∧ q.val ≤ 11) ∧ floor < (s.queue q).entries.length + s.creditsOn q then s.queueRefused b q 3
      else (s.setQueue q { s.queue q with floor := floor, ceiling := ceiling },
        .answer .ok (b :: natBytes16 floor ++ natBytes16 ceiling)) := by
  simp only [handleQueueSet, hb, hqb, addQueuePort_isSome, hf, hc, Bool.not_eq_true', Bool.not_eq_true]
  rfl

end

/-! ### A flush with its response (R84, R90) -/

theorem mgmtQueue_ne_hq (o : Origin) : mgmtQueue o ≠ hq := by
  cases o
  · exact (by decide : mqt ≠ hq)
  · exact (by decide : mql ≠ hq)

/-- The end of a batch leaves the Hold Queue alone. -/
theorem State.tryStart_hq (u : State) : (u.tryStart.queue hq).entries = (u.queue hq).entries := by
  have hframe (t : State) (o : Origin) (seq : BitVec 16) (st : Status) (body : List Byte) :
      (t.deliverCommit o seq st body).queue hq = t.queue hq :=
    ((RequestFrame.onEntry _ _ _).trans (RequestFrame.offerResponse _ _ _)).queues hq (by decide) (by decide)
  have hsignal (t : State) : t.batchEndSignal.queue hq = t.queue hq := by
    unfold State.batchEndSignal; split <;> rfl
  unfold State.tryStart
  split
  · unfold State.startApply
    split
    · rfl
    · unfold State.finishBatch
      dsimp only
      rw [hsignal]
      split
      · rw [hframe]; rfl
      · rfl
  · rfl

theorem State.admits_flushed {s : State} (h : QueueLaws s) {q : QueueId} (hfloor : 0 < (s.queue q).floor) :
    (s.flush q).admits q = true := by
  obtain ⟨hbuffer, hreserve, -⟩ := h
  unfold BufferLaw ReserveLaw at *
  refine State.admits_below_floor _ ?_ (by simpa [Queue.occupancy] using hfloor)
  have hsum : usedSlots (s.flush q).queues + (s.queue q).occupancy = usedSlots s.queues := by
    rw [usedSlots_eq_sum, usedSlots_eq_sum, ← Finset.sum_erase_add _ _ (Finset.mem_univ q),
      ← Finset.sum_erase_add _ (fun k => (s.queue k).entries.length) (Finset.mem_univ q), State.queue_flush_same]
    have hrest : ∑ k ∈ Finset.univ.erase q, ((s.flush q).queue k).entries.length =
        ∑ k ∈ Finset.univ.erase q, (s.queue k).entries.length :=
      Finset.sum_congr rfl fun k hk => by rw [s.queue_flush_other (Finset.ne_of_mem_erase hk)]
    simp [hrest, Queue.occupancy]
  have hunused := s.unused_le_reserve q
  simp only [Queue.unused] at hunused
  simp only [State.freeSlots] at *
  omega

/-- A response changes the queue of its origin alone. -/
theorem State.respond_queue_other (s : State) (r : Request) (st : Status) (body : List Byte) {q : QueueId}
    (h : q ≠ mgmtQueue r.origin) : (s.respond r st body).queue q = s.queue q := by
  unfold State.respond
  dsimp only
  rcases State.offerResponse_cases (s.onEntry r.origin fun e => e.answered (s.response r.origin r.seq r.code st body))
    r.origin (s.response r.origin r.seq r.code st body) with ⟨-, hc⟩ | ⟨-, hc⟩ <;>
    rw [hc, State.queue_countAgent, State.claim_queue_other _ _ h] <;> rfl

/-- While the destination can be reached no contact is sent (R184), so what follows a request changes no queue. -/
theorem State.follow_queues {s : State} (hu : s.notices.unreachable = false) (leased : Bool) (o : Origin) :
    (s.follow leased o).queues = s.queues := by
  have hcontact (t : State) (ht : t.notices.unreachable = false) : (t.contact o).queues = t.queues := by
    unfold State.contact
    rw [ht]
  rw [State.follow, hcontact]
  · unfold State.renewFor
    split
    · split <;> rfl
    · rfl
  · unfold State.renewFor
    split
    · split <;> exact hu
    · exact hu

/-- Without cells behind the request, the queues that a served request leaves are those after its response. -/
theorem State.served_queues {s : State} {m : HandCell} (hm : s.agent.hands = [m]) {effect : State → State}
    (hu : (effect (s.entered m [])).notices.unreachable = false) (leased : Bool) (st : Status) (body : List Byte) :
    (s.served leased effect st body).queues = ((effect (s.entered m [])).respond m.request st body).queues := by
  have hu' : ((effect (s.entered m [])).respond m.request st body).notices.unreachable = false := by
    simpa [State.respond, State.onEntry] using hu
  simp only [State.served, hm, settleHands, State.setHands_queues]
  exact State.follow_queues hu' leased m.request.origin

theorem tryStart_unreachable (u : State) : u.tryStart.notices.unreachable = u.notices.unreachable := by
  unfold State.tryStart
  split
  · unfold State.startApply
    split
    · rfl
    · unfold State.finishBatch State.batchEndSignal State.deliverCommit
      dsimp only
      split <;> split <;> simp [State.onEntry]
  · rfl

/-- The flush of a queue is a function of the state it is made in (R84). -/
def State.flushAndStart (u : State) (q : QueueId) : State := if q = hq then (u.flush q).tryStart else u.flush q

/-- What a flush leaves in the queues, with the response behind it (R84, R90). -/
theorem queueFlush_leaves {s : State} {m : HandCell} (hm : s.agent.hands = [m]) (hlaws : QueueLaws s)
    (hu : s.notices.unreachable = false) {q : QueueId} {effect : State → State}
    (heff : effect (s.entered m []) = (s.entered m []).flushAndStart q) (leased : Bool) (st : Status) (body : List Byte) :
    (q ≠ mgmtQueue m.origin → ((s.served leased effect st body).queue q).entries = []) ∧
    (q = mgmtQueue m.origin → ((s.served leased effect st body).queue q).entries =
      [{ cell := s.response m.origin m.cell.reqSeq m.cell.code st body, source := .agent, marked := false }]) := by
  have hu' : ((s.entered m []).flushAndStart q).notices.unreachable = false := by
    unfold State.flushAndStart
    split
    · rw [tryStart_unreachable]; simpa using hu
    · simpa using hu
  have hqueue : (s.served leased effect st body).queue q =
      (((s.entered m []).flushAndStart q).respond m.request st body).queue q := by
    rw [← heff] at hu' ⊢
    exact State.queue_of_queues (State.served_queues hm hu' leased st body) q
  have hempty : (((s.entered m []).flushAndStart q).queue q).entries = [] := by
    unfold State.flushAndStart
    split
    · rename_i h
      rw [h, State.tryStart_hq, State.queue_flush_same]
    · rw [State.queue_flush_same]
  rw [hqueue]
  refine ⟨fun hne => by rw [State.respond_queue_other _ _ _ _ hne, hempty], fun he => ?_⟩
  have hne : q ≠ hq := by
    rw [he]
    exact mgmtQueue_ne_hq m.origin
  have hflush : (s.entered m []).flushAndStart q = (s.entered m []).flush q := if_neg hne
  have hfloor : 0 < (s.queue q).floor := by
    obtain ⟨-, -, ⟨-, hmqt, hmql, -⟩, -⟩ := hlaws
    rw [he]
    cases m.origin
    · exact Nat.lt_of_lt_of_le (by decide) hmqt
    · exact Nat.lt_of_lt_of_le (by decide) hmql
  have hadm : ((s.entered m []).flush q).admits q = true := by
    have hsame : ((s.entered m []).flush q).admits = (s.flush q).admits := by
      rw [s.entered_sameBlocks m []]; rfl
    rw [hsame]
    exact State.admits_flushed hlaws hfloor
  have hcell : ((s.entered m []).flush q).response m.request.origin m.request.seq m.request.code st body =
      s.response m.origin m.cell.reqSeq m.cell.code st body := State.response_congr (by simp) (by simp) _ _ _ _ _
  obtain ⟨x, hx, -⟩ := s.entered_entry m []
  obtain ⟨-, -, -, -, hsent⟩ := ((s.entered m []).flush q).respond_spec m.request st body (x := x) hx
  have hown : mgmtQueue m.request.origin = q := he.symm
  rw [hown] at hsent
  rw [hflush, hsent hadm, State.queue_flush_same, List.nil_append, hcell]

/-! ### The end of a batch beside the Agent's bookkeeping -/

section
variable {s t : State} (h : SameBlocks s t)
include h

theorem SameBlocks.countAgent (f g : AgentCounters → AgentCounters) : SameBlocks (s.countAgent f) (t.countAgent g) := by
  rw [h]; rfl

theorem SameBlocks.onEntry (o : Origin) (f g : OriginEntry → OriginEntry) :
    SameBlocks (s.onEntry o f) (t.onEntry o g) := by
  rw [h]; rfl

theorem SameBlocks.flush (q : QueueId) : SameBlocks (s.flush q) (t.flush q) := by
  rw [h]; rfl

theorem SameBlocks.offerResponse (o : Origin) (c : Cell) : SameBlocks (s.offerResponse o c) (t.offerResponse o c) := by
  have hadm : t.admits = s.admits := by rw [h]; rfl
  have hclaim (e : Entry) : SameBlocks (s.claim (mgmtQueue o) e).1 (t.claim (mgmtQueue o) e).1 := by
    rcases s.claim_cases (mgmtQueue o) e with ⟨ha, hc⟩ | ⟨ha, hc⟩
    · rw [hc, State.claim_admitted e (by rw [hadm]; exact ha), h]; rfl
    · rw [hc, State.claim_refused e (by rw [hadm]; exact ha), h]; rfl
  rcases s.offerResponse_cases o c with ⟨ha, hc⟩ | ⟨ha, hc⟩ <;>
    rcases t.offerResponse_cases o c with ⟨hb, hd⟩ | ⟨hb, hd⟩ <;> rw [hc, hd] <;> exact (hclaim _).countAgent _ _

theorem SameBlocks.finishBatch (st : Status) (applied : List BankId) (os : List Outcome) :
    SameBlocks (s.finishBatch st applied os) (t.finishBatch st applied os) := by
  have hbatch : t.batch = s.batch := by rw [h]
  have hdiscard : SameBlocks s.discardBatch t.discardBatch := by rw [h]; rfl
  have hsignal {u v : State} (k : SameBlocks u v) : SameBlocks u.batchEndSignal v.batchEndSignal := by
    have hlease : v.lease = u.lease := by rw [k]
    unfold State.batchEndSignal
    rw [hlease]
    split
    · rw [k]; rfl
    · exact k
  unfold State.finishBatch
  dsimp only
  rw [hbatch]
  refine hsignal ?_
  split
  · rename_i o seq _
    have hcell (body : List Byte) : t.discardBatch.response o seq 0x22 st body = s.discardBatch.response o seq 0x22 st body :=
      State.response_congr (by rw [hdiscard]) (by rw [hdiscard]) _ _ _ _ _
    unfold State.deliverCommit
    dsimp only
    rw [hcell]
    exact (hdiscard.onEntry o _ _).offerResponse o _
  · exact hdiscard

theorem SameBlocks.tryStart : SameBlocks s.tryStart t.tryStart := by
  have hbatch : t.batch = s.batch := by rw [h]
  have hqueue : t.queue hq = s.queue hq := by rw [h]; rfl
  unfold State.tryStart
  rw [hbatch, hqueue]
  split
  · unfold State.startApply
    rw [hbatch]
    split
    · rw [h]; rfl
    · exact h.finishBatch _ _ _
  · exact h

end

/-- The end of a batch keeps the cells in hands and the last sequences. -/
theorem EntriesKept.finishBatch (s : State) (st : Status) (applied : List BankId) (os : List Outcome) :
    EntriesKept s (s.finishBatch st applied os) := by
  have hsignal {t : State} (h : EntriesKept s t) : EntriesKept s t.batchEndSignal := by
    unfold State.batchEndSignal
    split
    · exact ⟨h.hands, h.origins⟩
    · exact h
  unfold State.finishBatch
  refine hsignal ?_
  split
  · rename_i o seq _
    unfold State.deliverCommit
    refine ⟨by simp [State.onEntry], _, fun e => ?_, by rw [State.offerResponse_agent]; rfl⟩
    split <;> exact ⟨rfl, rfl⟩
  · exact .of_eq rfl

theorem EntriesKept.tryStart (s : State) : EntriesKept s s.tryStart := by
  unfold State.tryStart
  split
  · unfold State.startApply
    split
    · exact .of_eq rfl
    · exact .finishBatch s _ _ _
  · exact .of_eq rfl

/-- Settles O48: QUEUE_SET answers by the first check that fails, and a flush is answered behind it. -/
theorem queuesAreSetAndFlushed : Obligations.QueuesAreSetAndFlushed := by
  unfold Obligations.QueuesAreSetAndFlushed
  intro m rest s hr r
  refine ⟨fun ht => ?_, fun ht => ?_⟩
  · have unchanged {st : Status} {body : List Byte}
        (hh : handleQueueSet r (s.entered m rest) = (s.entered m rest, .answer st body)) :
        Serves .queueSet s true id r st body :=
      serves_unchanged rfl rfl (s.needsLease_of_leased rfl) ht hr hh
    refine ⟨fun hb => unchanged (handleQueueSet_malformed _ hb), fun b f1 f0 c1 c0 hb => ⟨fun hout => unchanged ?_, ?_⟩⟩
    · simp only [handleQueueSet, hb, queueOfByte_out hout]
      rfl
    intro q hqb x floor isAdd ceiling credits free reserve newReserve inRange refusal
    have hfree : (s.entered m rest).freeSlots = free := by rw [State.freeSlots_eq_sum]; simp only [State.entered_queue]; rfl
    have hres : (s.entered m rest).reserve = reserve := by rw [State.reserve_eq_sum]; simp only [State.entered_queue]; rfl
    have hcred : (s.entered m rest).creditsOn q = credits := by
      rw [State.creditsOn_eq_sum]; simp only [State.entered_port]; rfl
    have hnew : (State.setQueue (s.entered m rest) q
        { (s.entered m rest).queue q with floor := floor, ceiling := ceiling }).reserve = newReserve := by
      rw [State.reserve_setFloor]; simp only [State.entered_queue]; rfl
    have hrefused (reason : Byte) : (s.entered m rest).queueRefused b q reason =
        (s.entered m rest, .answer .refused (refusal reason)) := by
      simp only [State.queueRefused, hfree, hres, hcred, State.entered_queue]
      rfl
    have hvalues : queueValuesOk q floor ceiling = true ↔ inRange := queueValuesOk_iff q floor ceiling
    have hbody := handleQueueSet_body (s := s.entered m rest) (floor := floor) (ceiling := ceiling) hb
      (queueOfByte_eq hqb) rfl rfl
    rw [hfree, hnew, hcred, hrefused, hrefused, hrefused, State.entered_queue] at hbody
    refine ⟨fun hbad => unchanged ?_, fun hok hsmall => unchanged ?_, fun hok hroom hshort => unchanged ?_,
      fun hok hroom hfits hadd hdebt => unchanged ?_, fun hok hroom hfits hadd => ?_⟩
    · rw [hbody, if_pos fun h => hbad (hvalues.1 h)]; rfl
    all_goals
      have hv : ¬¬queueValuesOk q floor ceiling = true := not_not.2 (hvalues.2 hok)
    · rw [hbody, if_neg hv, if_pos hsmall]
    · rw [hbody, if_neg hv, if_neg (Nat.not_lt.2 hroom), if_pos hshort]
    · rw [hbody, if_neg hv, if_neg (Nat.not_lt.2 hroom), if_neg (Nat.not_lt.2 hfits), if_pos ⟨hadd, hdebt⟩]
    · refine serves_effect rfl rfl (s.needsLease_of_leased rfl) ht hr (handler := handleQueueSet) ?_ ?_ (.of_eq rfl)
      · rw [hbody, if_neg hv, if_neg (Nat.not_lt.2 hroom), if_neg (Nat.not_lt.2 hfits),
          if_neg fun h => Nat.not_lt.2 (hadd h.1) h.2]
        rfl
      · rw [s.entered_sameBlocks m rest]; rfl
  · have hserved {st : Status} {body : List Byte} {effect : State → State}
        (hh : handleQueueFlush r (s.entered m rest) = (effect (s.entered m rest), .answer st body))
        (hs : SameBlocks (effect s) (effect (s.entered m rest)))
        (hk : EntriesKept (s.entered m rest) (effect (s.entered m rest))) : Serves .queueFlush s true effect r st body :=
      serves_effect rfl rfl (s.needsLease_of_leased rfl) ht hr hh hs hk
    have hsame := s.entered_sameBlocks m rest
    refine ⟨fun hb => hserved (handleQueueFlush_malformed _ hb) hsame (.of_eq rfl),
      fun b hb => ⟨fun hout => hserved ?_ hsame (.of_eq rfl), ?_⟩⟩
    · simp only [handleQueueFlush, hb, queueOfByte_out hout]
      rfl
    intro q hqb flushed body own
    have hflush (u : State) (hu : u.queue q = s.queue q) :
        (if q = 12 then (flushed u).tryStart else flushed u) = u.flushAndStart q := by
      have hf : flushed u = u.flush q := by rw [State.flush, hu]; rfl
      rw [hf]
      rfl
    have hown : own = mgmtQueue m.origin := by
      cases hm : m.origin <;> simp only [own, hm] <;> rfl
    have hserves : Serves .queueFlush s true (fun u => if q = 12 then (flushed u).tryStart else flushed u) r .ok body := by
      refine hserved ?_ ?_ ?_
      · rw [hflush _ (s.entered_queue m rest q)]
        simp only [handleQueueFlush, hb, queueOfByte_eq hqb, State.entered_queue]
        rfl
      · rw [hflush _ (s.entered_queue m rest q), hflush s rfl]
        unfold State.flushAndStart
        split
        · exact (hsame.flush q).tryStart
        · exact hsame.flush q
      · rw [hflush _ (s.entered_queue m rest q)]
        unfold State.flushAndStart
        split
        · have hkept := EntriesKept.tryStart ((s.entered m rest).flush q)
          exact ⟨hkept.hands, hkept.origins⟩
        · exact .of_eq rfl
    refine ⟨hserves, fun hrest hu hlaws => ⟨_, hserves.1, ?_⟩⟩
    subst hrest
    obtain ⟨-, hhands, -, hcode⟩ := ht
    have hleaves := queueFlush_leaves (effect := fun u => if q = 12 then (flushed u).tryStart else flushed u)
      hhands hlaws hu (hflush _ (s.entered_queue m [] q)) true .ok body
    rw [← hown, hcode] at hleaves
    exact hleaves

end Sys2Proof.Machine
end

section
namespace Sys2Proof.Machine

/-! ## O11 and O12: edit images -/

/-! ### The edit of an image, by its op (R46, R163) -/

section
variable {i : Image}

theorem editOf_write (h : byteAt i 0 = 1) : editOf i =
    (tagField (word16At i 1)).bind fun t => (writeState (byteAt i 3)).bind fun st =>
      if writeFieldsValid i = true then some (.write t (contentOfImage i st)) else none := by
  simp only [editOf, h]
  cases tagField (word16At i 1) with
  | none => rfl
  | some t => cases writeState (byteAt i 3) <;> rfl

theorem editOf_clear (h : byteAt i 0 = 2) : editOf i = (tagField (word16At i 1)).map .clear := by
  simp only [editOf, h]
  cases tagField (word16At i 1) <;> rfl

theorem editOf_refill (h : byteAt i 0 = 3) : editOf i =
    (tagField (word16At i 1)).bind fun t => if word16At i 10 ≠ 0 then some (.refill t (word16At i 10)) else none := by
  simp only [editOf, h]
  cases tagField (word16At i 1) <;> rfl

theorem editOf_bar (h : byteAt i 0 = 4) : editOf i = (tagField (word16At i 1)).map .bar := by
  simp only [editOf, h]
  cases tagField (word16At i 1) <;> rfl

theorem editOf_unbar (h : byteAt i 0 = 5) : editOf i = (tagField (word16At i 1)).map .unbar := by
  simp only [editOf, h]
  cases tagField (word16At i 1) <;> rfl

theorem editOf_clearBank (h : byteAt i 0 = 6) : editOf i =
    if (word16At i 1).toNat ≤ 3 then some (.clearBank ((word16At i 1).extractLsb' 0 2).toFin) else none := by
  simp only [editOf, h]
  rfl

/-- An image whose op is none of the six gives no edit. -/
theorem editOf_other (h : ¬(1 ≤ (byteAt i 0).toNat ∧ (byteAt i 0).toNat ≤ 6)) : editOf i = none := by
  have hne (n : Nat) (hn : 1 ≤ n) (hn' : n ≤ 6) : byteAt i 0 ≠ BitVec.ofNat 8 n := by
    rintro he
    rw [he, BitVec.toNat_ofNat, Nat.mod_eq_of_lt (by omega)] at h
    exact h ⟨hn, hn'⟩
  have h1 := hne 1 (by decide) (by decide)
  have h2 := hne 2 (by decide) (by decide)
  have h3 := hne 3 (by decide) (by decide)
  have h4 := hne 4 (by decide) (by decide)
  have h5 := hne 5 (by decide) (by decide)
  have h6 := hne 6 (by decide) (by decide)
  simp only [editOf, BitVec.ofNat_eq_ofNat, h1, h2, h3, h4, h5, h6, if_false]
  split <;> rfl

/-- The op of an image is one of the six, or none of them. -/
theorem op_cases (b : Byte) :
    b = 1 ∨ b = 2 ∨ b = 3 ∨ b = 4 ∨ b = 5 ∨ b = 6 ∨ ¬(1 ≤ b.toNat ∧ b.toNat ≤ 6) := by
  simp only [← BitVec.toNat_inj, BitVec.ofNat_eq_ofNat, BitVec.toNat_ofNat]
  omega

theorem tagField_isSome (w : BitVec 16) : (tagField w).isSome = true ↔ w.toNat ≤ 4094 := by
  unfold tagField
  split <;> simp_all

theorem writeState_isSome (b : Byte) :
    (writeState b).isSome = true ↔ b.extractLsb' 5 3 = 1 ∨ b.extractLsb' 5 3 = 3 := by
  unfold writeState
  split
  · simp_all
  · split <;> simp_all

theorem writeFieldsValid_iff (i : Image) : writeFieldsValid i = true ↔
    ((byteAt i 4).getLsbD 0 = true → (word16At i 5).toNat ≤ 4094) ∧
    ((byteAt i 4).getLsbD 5 = true → 1 ≤ (word16At i 10).toNat) := by
  have hpos : word16At i 10 ≠ 0 ↔ 1 ≤ (word16At i 10).toNat := by
    rw [Nat.one_le_iff_ne_zero, ne_eq, ← BitVec.toNat_inj]
    rfl
  simp only [writeFieldsValid, Bool.and_eq_true, Bool.or_eq_true, Bool.not_eq_true', decide_eq_true_eq, hpos,
    ← Bool.not_eq_true, imp_iff_not_or]

end

/-- Which images are valid (R46). -/
theorem editOf_isSome_iff (i : Image) : (editOf i).isSome = true ↔
    ((1 ≤ (byteAt i 0).toNat ∧ (byteAt i 0).toNat ≤ 5 ∧ (word16At i 1).toNat ≤ 4094) ∧
      (byteAt i 0 = 1 →
        ((byteAt i 3).extractLsb' 5 3 = 1 ∨ (byteAt i 3).extractLsb' 5 3 = 3) ∧
        ((byteAt i 4).getLsbD 0 = true → (word16At i 5).toNat ≤ 4094) ∧
        ((byteAt i 4).getLsbD 5 = true → 1 ≤ (word16At i 10).toNat)) ∧
      (byteAt i 0 = 3 → 1 ≤ (word16At i 10).toNat)) ∨
    (byteAt i 0 = 6 ∧ (word16At i 1).toNat ≤ 3) := by
  rw [← tagField_isSome, ← writeState_isSome, ← writeFieldsValid_iff]
  rcases op_cases (byteAt i 0) with h | h | h | h | h | h | h
  · rw [editOf_write h, h]
    cases tagField (word16At i 1) <;> cases writeState (byteAt i 3) <;> simp
  · rw [editOf_clear h, h]
    simp
  · have hpos : word16At i 10 ≠ 0 ↔ 1 ≤ (word16At i 10).toNat := by
      rw [Nat.one_le_iff_ne_zero, ne_eq, ← BitVec.toNat_inj]
      rfl
    rw [editOf_refill h, h, ← hpos]
    cases tagField (word16At i 1) <;> simp
  · rw [editOf_bar h, h]
    simp
  · rw [editOf_unbar h, h]
    simp
  · rw [editOf_clearBank h, h]
    simp
  · rw [editOf_other h]
    have h6 : byteAt i 0 ≠ 6 := fun he => h (by rw [he]; decide)
    simp only [Option.isSome_none, h6, false_and, or_false, Bool.false_eq_true, false_iff]
    exact fun hk => h ⟨hk.1.1, hk.1.2.1.trans (by decide)⟩

/-! ### The bits that an op ignores (R46) -/

/-- The state that byte 3 of a WRITE gives uses its tributary bits for DROP and TAP alone. -/
theorem writeState_congr {a b : Byte} (h : a.extractLsb' 3 5 = b.extractLsb' 3 5)
    (ht : (a.extractLsb' 3 2 = 1 ∨ a.extractLsb' 3 2 = 2) → a.extractLsb' 0 2 = b.extractLsb' 0 2) :
    writeState a = writeState b := by
  have hstate (x : Byte) : x.extractLsb' 5 3 = (x.extractLsb' 3 5).extractLsb' 2 3 := by
    ext k hk; simp [show 2 + k < 5 by omega, ← Nat.add_assoc]
  have hcode (x : Byte) : x.extractLsb' 3 2 = (x.extractLsb' 3 5).extractLsb' 0 2 := by
    ext k hk; simp [show k < 5 by omega]
  have hc : a.extractLsb' 3 2 = b.extractLsb' 3 2 := by rw [hcode, hcode b, h]
  have haction : actionOfByte a = actionOfByte b := by
    simp only [actionOfByte, ← hc]
    by_cases h1 : a.extractLsb' 3 2 = 1
    · rw [ht (.inl h1)]
    · by_cases h2 : a.extractLsb' 3 2 = 2
      · rw [ht (.inr h2)]
      · simp only [h1, h2, if_false]
  simp only [writeState, hstate a, hstate b, h, haction]

theorem contentOfImage_congr {i j : Image} (h : (byteAt i 4).extractLsb' 0 6 = (byteAt j 4).extractLsb' 0 6)
    (h0 : (byteAt i 4).getLsbD 0 = true → word16At i 5 = word16At j 5)
    (h1 : (byteAt i 4).getLsbD 1 = true → (byteAt i 7).extractLsb' 6 2 = (byteAt j 7).extractLsb' 6 2)
    (h2 : (byteAt i 4).getLsbD 2 = true → (byteAt i 7).extractLsb' 4 2 = (byteAt j 7).extractLsb' 4 2)
    (h3 : (byteAt i 4).getLsbD 3 = true → byteAt i 8 = byteAt j 8)
    (h4 : (byteAt i 4).getLsbD 4 = true → byteAt i 9 = byteAt j 9)
    (h5 : (byteAt i 4).getLsbD 5 = true → word16At i 10 = word16At j 10) :
    contentOfImage i = contentOfImage j ∧ writeFieldsValid i = writeFieldsValid j := by
  have hflag (k : Nat) (hk : k < 6) : (byteAt j 4).getLsbD k = (byteAt i 4).getLsbD k := by
    have := congrArg (fun x : BitVec 6 => x.getLsbD k) h
    simpa [BitVec.getLsbD_extractLsb', hk] using this.symm
  have hif {α : Type} {c : Bool} {x y z : α} (hxy : c = true → x = y) : (if c then x else z) = if c then y else z := by
    cases c
    · rfl
    · exact hxy rfl
  constructor
  · funext st
    simp only [contentOfImage, hflag 0 (by decide), hflag 1 (by decide), hflag 2 (by decide), hflag 3 (by decide),
      hflag 4 (by decide), hflag 5 (by decide)]
    congr 1
    · exact hif fun hc => by rw [h0 hc]
    · exact hif fun hc => by rw [h1 hc]
    · exact hif fun hc => by rw [h2 hc]
    · exact hif fun hc => by rw [h3 hc]
    · exact hif fun hc => by rw [h4 hc]
    · exact hif fun hc => by rw [h5 hc]
  · rw [Bool.eq_iff_iff, writeFieldsValid_iff, writeFieldsValid_iff, hflag 0 (by decide), hflag 5 (by decide)]
    exact and_congr (imp_congr_right fun hc => by rw [h0 hc]) (imp_congr_right fun hc => by rw [h5 hc])

/-- The digest, bit by bit (R49). -/
theorem digestOf_eq (images : List Image) : digestOf images =
    (images.flatten.flatMap fun b => (List.range 8).map fun k => b.getLsbD (7 - k)).foldl
      (fun (x : BitVec 16) bit => if x.msb = bit then x <<< 1 else (x <<< 1) ^^^ 0x1021#16) 0xFFFF#16 := by
  have hbits : bitsOf = fun b => (List.range 8).map fun k => b.getLsbD (7 - k) := rfl
  have hstep : digestBit = fun (x : BitVec 16) bit => if x.msb = bit then x <<< 1 else (x <<< 1) ^^^ 0x1021#16 := by
    funext x bit
    by_cases h : x.msb = bit <;> simp [digestBit, h]
  rw [digestOf, hbits, hstep]

/-- Settles O12: an op's equation names the bytes that decide, and no others. -/
theorem imageValidity : Obligations.ImageValidity := by
  unfold Obligations.ImageValidity
  refine ⟨editOf_isSome_iff, fun i j hop htag => ?_, digestOf_eq⟩
  intro flag
  refine ⟨fun h1 h3 => ?_, fun h3 hvalue => ?_, fun h1 hbyte htrib hflags f0 f1 f2 f3 f4 f5 => ?_⟩
  · rcases op_cases (byteAt i 0) with h | h | h | h | h | h | h
    · exact absurd h h1
    · rw [editOf_clear h, editOf_clear (hop ▸ h), htag]
    · exact absurd h h3
    · rw [editOf_bar h, editOf_bar (hop ▸ h), htag]
    · rw [editOf_unbar h, editOf_unbar (hop ▸ h), htag]
    · rw [editOf_clearBank h, editOf_clearBank (hop ▸ h), htag]
    · rw [editOf_other h, editOf_other (hop ▸ h)]
  · rw [editOf_refill h3, editOf_refill (hop ▸ h3), htag, hvalue]
  · obtain ⟨hcontent, hvalid⟩ := contentOfImage_congr hflags f0 f1 f2 f3 f4 f5
    rw [editOf_write h1, editOf_write (hop ▸ h1), htag, writeState_congr hbyte htrib, hcontent, hvalid]

/-! ### The image of a record (R72) -/

/-- Byte 3 of an image: the state in bits 7..5, the action in bits 4..3, its tributary in bits 1..0. -/
def stateByte (state : BitVec 3) (action : BitVec 2 × BitVec 2) : Byte := state ++ action.1 ++ 0#1 ++ action.2

/-- The codes of an action and its tributary. -/
def actionCodes : Action → BitVec 2 × BitVec 2
  | .pass => (0, 0)
  | .drop n => (1, BitVec.ofFin n)
  | .tap n => (2, BitVec.ofFin n)
  | .sink => (3, 0)

theorem stateByte_action (code : Fin 5) (a : Action) :
    BitVec.ofNat 8 code.val <<< 5 ||| actionBits (some a) = stateByte (BitVec.ofNat 3 code.val) (actionCodes a) := by
  cases a with
  | pass => revert code; decide
  | drop n => revert code n; decide
  | tap n => revert code n; decide
  | sink => revert code; decide

/-- The state and the action stand where a WRITE reads them. -/
theorem writeState_stateByte (code : Fin 5) (a : Action) : writeState (stateByte (BitVec.ofNat 3 code.val) (actionCodes a)) =
    if code = 1 then some (.opened a) else if code = 3 then some (.barred a) else none := by
  cases a with
  | pass => revert code; decide
  | drop n => revert code n; decide
  | tap n => revert code n; decide
  | sink => revert code; decide

/-- The state that a WRITE reads in the image of a record: OPEN and BARRED are states to write, the others are not (R46). -/
theorem writeState_record (st : RecState) : writeState (stateCode st <<< 5 ||| actionBits (stateAction st)) =
    match st with
    | .opened _ | .barred _ => some st
    | .vacant | .spent _ | .faulted _ => none := by
  have hread (code : Fin 5) (a : Action) := (congrArg writeState (stateByte_action code a)).trans (writeState_stateByte code a)
  cases st with
  | vacant => decide
  | opened a => exact hread 1 a
  | spent a => exact hread 2 a
  | barred a => exact hread 3 a
  | faulted a =>
    cases a with
    | none => decide
    | some a => exact hread 4 a

/-- Byte 4 of an image: the six presence flags. -/
def flagsByte (quota stamp expected source classOv rewrite : Bool) : Byte :=
  0#2 ++ BitVec.ofBool quota ++ BitVec.ofBool stamp ++ BitVec.ofBool expected ++ BitVec.ofBool source ++
    BitVec.ofBool classOv ++ BitVec.ofBool rewrite

theorem flagsByte_eq (q st e so cl r : Bool) :
    (if q then (0x20 : Byte) else 0) ||| (if st then 0x10 else 0) ||| (if e then 0x08 else 0) ||| (if so then 0x04 else 0) |||
      (if cl then 0x02 else 0) ||| (if r then 0x01 else 0) = flagsByte q st e so cl r := by
  revert q st e so cl r; decide

theorem flagsByte_bits (q st e so cl r : Bool) :
    (flagsByte q st e so cl r).getLsbD 0 = r ∧ (flagsByte q st e so cl r).getLsbD 1 = cl ∧
    (flagsByte q st e so cl r).getLsbD 2 = so ∧ (flagsByte q st e so cl r).getLsbD 3 = e ∧
    (flagsByte q st e so cl r).getLsbD 4 = st ∧ (flagsByte q st e so cl r).getLsbD 5 = q := by
  revert q st e so cl r; decide

/-- Byte 7 of an image: the class override in bits 7..6, the source in bits 5..4. -/
def classByte (c : ClassId) (p : PortId) : Byte := BitVec.ofFin (w := 2) c ++ BitVec.ofFin (w := 2) p ++ 0#4

theorem classByte_eq (c : ClassId) (p : PortId) :
    BitVec.ofNat 8 c.val <<< 6 ||| BitVec.ofNat 8 p.val <<< 4 = classByte c p ∧
    ((classByte c p).extractLsb' 6 2).toFin = c ∧ ((classByte c p).extractLsb' 4 2).toFin = p := by
  revert c p; decide

theorem word16_bytes16 (w : BitVec 16) : word16 (w.extractLsb' 8 8) (w.extractLsb' 0 8) = w := by
  rw [word16, BitVec.extractLsb'_append_extractLsb'_eq_extractLsb' (by decide)]
  exact BitVec.extractLsb'_eq_self

/-- The image of a record, by its bytes (R72). -/
theorem imageOf_eq (tag : Tag) (c : Content) : imageOf tag c =
    [(0x00 : Byte)] ++ bytes16 (tag.setWidth 16) ++
    [stateCode c.state <<< 5 ||| actionBits (stateAction c.state),
      flagsByte c.quota.isSome c.stamp.isSome c.expected.isSome c.source.isSome c.classOv.isSome c.rewrite.isSome] ++
    bytes16 ((c.rewrite.getD 0).setWidth 16) ++
    [classByte (c.classOv.getD 0) (c.source.getD 0), c.expected.getD 0, c.stamp.getD 0] ++ bytes16 (c.quota.getD 0) := by
  simp only [imageOf, presence, flagsByte_eq, (classByte_eq _ _).1]
  rfl

section
variable (tag : Tag) (c : Content)

/-- The image of a record with op 1. -/
def writeImage : Image := 1 :: (imageOf tag c).tail

/-- What a WRITE reads in the image of a record. -/
theorem writeImage_fields : byteAt (writeImage tag c) 0 = 1 ∧ word16At (writeImage tag c) 1 = tag.setWidth 16 ∧
    byteAt (writeImage tag c) 3 = stateCode c.state <<< 5 ||| actionBits (stateAction c.state) ∧
    byteAt (writeImage tag c) 4 =
      flagsByte c.quota.isSome c.stamp.isSome c.expected.isSome c.source.isSome c.classOv.isSome c.rewrite.isSome ∧
    word16At (writeImage tag c) 5 = (c.rewrite.getD 0).setWidth 16 ∧
    byteAt (writeImage tag c) 7 = classByte (c.classOv.getD 0) (c.source.getD 0) ∧
    byteAt (writeImage tag c) 8 = c.expected.getD 0 ∧ byteAt (writeImage tag c) 9 = c.stamp.getD 0 ∧
    word16At (writeImage tag c) 10 = c.quota.getD 0 := by
  rw [writeImage, imageOf_eq]
  exact ⟨rfl, word16_bytes16 _, rfl, rfl, word16_bytes16 _, rfl, rfl, rfl, word16_bytes16 _⟩

theorem setWidth_tag (t : Tag) : ((t.setWidth 16).setWidth 12 : Tag) = t := by
  rw [BitVec.setWidth_setWidth_of_le _ (by decide), BitVec.setWidth_eq]

/-- A WRITE of the image of a record gives its content in this state, with both counts and the revision 0 (R57). -/
theorem contentOfImage_writeImage (st : RecState) : contentOfImage (writeImage tag c) st =
    { c with state := st, accepted := 0, refused := 0, revision := 0 } := by
  obtain ⟨-, -, -, h4, h5, h7, h8, h9, h10⟩ := writeImage_fields tag c
  obtain ⟨f0, f1, f2, f3, f4, f5⟩ :=
    flagsByte_bits c.quota.isSome c.stamp.isSome c.expected.isSome c.source.isSome c.classOv.isSome c.rewrite.isSome
  obtain ⟨-, hcl, hso⟩ := classByte_eq (c.classOv.getD 0) (c.source.getD 0)
  have hopt {α : Type} (o : Option α) (d : α) : (if o.isSome then some (o.getD d) else none) = o := by cases o <;> rfl
  have hrw : ((c.rewrite.getD 0).setWidth 16).extractLsb' 0 12 = c.rewrite.getD 0 := by
    rw [← BitVec.setWidth_eq_extractLsb' (by decide)]
    exact setWidth_tag _
  simp only [contentOfImage, h4, h5, h7, h8, h9, h10, f0, f1, f2, f3, f4, f5, hcl, hso, hrw, hopt]

/-- The fields of the image are in range but for a quota of 0 (R46). -/
theorem writeFieldsValid_writeImage (hc : c.rewriteWf = true) :
    writeFieldsValid (writeImage tag c) = true ↔ c.quota ≠ some 0 := by
  obtain ⟨-, -, -, h4, h5, -, -, -, h10⟩ := writeImage_fields tag c
  obtain ⟨f0, -, -, -, -, f5⟩ :=
    flagsByte_bits c.quota.isSome c.stamp.isSome c.expected.isSome c.source.isSome c.classOv.isSome c.rewrite.isSome
  have hrange : c.rewrite.isSome = true → ((c.rewrite.getD 0).setWidth 16).toNat ≤ 4094 := by
    cases hr : c.rewrite with
    | none => nofun
    | some t =>
      intro _
      have ht : t.toNat ≤ 4094 := by simpa [Content.rewriteWf, hr] using hc
      simpa [Nat.mod_eq_of_lt (by omega : t.toNat < 65536)] using ht
  rw [writeFieldsValid_iff, h4, h5, h10, f0, f5]
  cases hq : c.quota with
  | none => simpa using hrange
  | some q =>
    have hpos : 1 ≤ q.toNat ↔ q ≠ 0 := by
      rw [Nat.one_le_iff_ne_zero, ne_eq, ne_eq, ← BitVec.toNat_inj]
      rfl
    simp only [Option.isSome_some, Option.getD_some, forall_const, hpos, ne_eq, Option.some.injEq]
    exact and_iff_right hrange

/-- The edit of the image of a record, given op 1 (R46, R72). -/
theorem editOf_writeImage (htag : tag.toNat ≤ 4094) (hc : c.rewriteWf = true) : editOf (writeImage tag c) =
    (writeState (stateCode c.state <<< 5 ||| actionBits (stateAction c.state))).bind fun st =>
      if c.quota = some 0 then none
      else some (.write tag { c with state := st, accepted := 0, refused := 0, revision := 0 }) := by
  obtain ⟨h0, h1, h3, -⟩ := writeImage_fields tag c
  have hw : (tag.setWidth 16).toNat ≤ 4094 := by
    rw [BitVec.toNat_setWidth, Nat.mod_eq_of_lt (by omega)]
    exact htag
  rw [editOf_write h0, h1, h3, tagField_usable_eq hw, setWidth_tag]
  rw [Option.bind_some]
  refine congrArg (Option.bind _) (funext fun st => ?_)
  rw [contentOfImage_writeImage]
  by_cases hq : c.quota = some 0
  · rw [if_pos hq, if_neg fun h => (writeFieldsValid_writeImage tag c hc).1 h hq]
  · rw [if_neg hq, if_pos ((writeFieldsValid_writeImage tag c hc).2 hq)]

end

/-- Settles O11: the image is its bytes, and a WRITE reads each field back from the byte that holds it. -/
theorem entryImagesStageBack : Obligations.EntryImagesStageBack := by
  unfold Obligations.EntryImagesStageBack
  intro tag c htag hc state action
  have hbyte : stateCode c.state <<< 5 ||| actionBits (stateAction c.state) = stateByte state action := by
    simp only [state, action]
    cases c.state with
    | vacant => rfl
    | opened a => cases a <;> exact stateByte_action 1 _
    | spent a => cases a <;> exact stateByte_action 2 _
    | barred a => cases a <;> exact stateByte_action 3 _
    | faulted a =>
      cases a with
      | none => rfl
      | some a => cases a <;> exact stateByte_action 4 _
  refine ⟨?_, rfl, rfl, (editOf_writeImage tag c htag hc).trans ?_⟩
  · rw [imageOf_eq, hbyte]
    rfl
  · obtain ⟨st, rewrite, classOv, source, expected, stamp, quota, accepted, refused, revision⟩ := c
    rw [writeState_record]
    cases st <;> rfl

end Sys2Proof.Machine
end

section
namespace Sys2Proof.Machine

/-! ## O58: the next edit, and CLEAR_BANK -/

/-- The bank in progress is the one that is UPDATING (R54). -/
theorem State.bankInProgress_eq {s : State} {b : BankId} (hb : ∀ k, s.bank k = .updating ↔ k = b) :
    s.bankInProgress = some b := by
  have hp : (fun k => decide (s.bank k = .updating)) = fun k => decide (k = b) := by
    funext k
    simp only [hb]
  have hfind : ∀ b : BankId, allFour.find? (fun k => decide (k = b)) = some b := by decide
  rw [State.bankInProgress, hp, hfind]

/-- The first edit that falls in a bank and has no outcome yet, by its place in the list (R54). -/
theorem firstEdit_eq {b : BankId} {outcomes : List Outcome} {staging : List Image} {p : Nat} {image : Image} {e : Edit}
    (hp : staging[p]? = some image) (he : editOf image = some e) (hb : e.bank = b) (hopen : ∀ x ∈ outcomes, x.position ≠ p)
    (hdone : ∀ j i e', j < p → staging[j]? = some i → editOf i = some e' → e'.bank = b →
      ∃ x ∈ outcomes, x.position = j) : firstEdit b outcomes staging = some (p, e) := by
  have hz : staging.zipIdx[p]? = some (image, p) := by simp [List.getElem?_zipIdx, hp]
  obtain ⟨hlt, hget⟩ := List.getElem?_eq_some_iff.1 hz
  refine List.findSome?_eq_some_iff.2 ⟨staging.zipIdx.take p, (image, p), staging.zipIdx.drop (p + 1), ?_, ?_, fun x hx => ?_⟩
  · rw [← hget, ← List.drop_eq_getElem_cons hlt, List.take_append_drop]
  · simpa [he, hb] using hopen
  · obtain ⟨j, hj, hxj⟩ := List.mem_take_iff_getElem.1 hx
    have hjz : staging.zipIdx[j]? = some x := by rw [← hxj, List.getElem?_eq_getElem]
    rw [List.getElem?_zipIdx, Option.map_eq_some_iff] at hjz
    obtain ⟨i, hi, rfl⟩ := hjz
    split
    · rename_i e' he'
      refine if_neg fun h => ?_
      obtain ⟨y, hy, hyp⟩ := hdone j i e' (by omega) hi he' h.1
      have hall := List.all_eq_true.1 h.2 y hy
      simp [hyp] at hall
    · rfl

/-! ### A bank cleared record by record (R62) -/

/-- The verify of a write fails twice (R14). -/
def verifyFailed : Verify → Bool
  | .fails _ => true
  | .stands | .rewritten => false

/-- What a cleared record becomes, by its verify (R14, R62). -/
def Record.clearedBy (r : Record) : Verify → Record
  | .fails read => { content := faultedContent read, good := true }
  | .stands | .rewritten => { content := { Content.cleared with revision := r.content.revision + 1 }, good := true }

/-- The report of a record whose verify failed twice (R14, R177). -/
def verifyReport (n : Nat) : Handed := { block := .updateEngine, report := tagReport .recordFault n verifyDetail }

/-- The state after one record of a bank is cleared. -/
def State.clearedAt (s : State) (n : Nat) (v : Verify) : State :=
  { s with
    table := tableWrite s.table n ((s.record n).clearedBy v)
    handed := s.handed ++ if verifyFailed v then [verifyReport n] else [] }

theorem State.replaceRecord_cleared (s : State) (n : Nat) (v : Verify) :
    s.replaceRecord n Content.cleared v = (s.clearedAt n v, !verifyFailed v) := by
  cases v with
  | fails read => rfl
  | stands | rewritten =>
    simp only [State.clearedAt, verifyFailed, Bool.false_eq_true, if_false, List.append_nil]
    rfl

/-- What clearing some records leaves: each one by its verify, the others as they were, the reports of those that failed, and
the first of these. -/
theorem clearRun_spec (vs : List (UsableTag × Verify)) {tags : List Nat} (hnodup : tags.Nodup) {s : State}
    (hrising : (s.table.map Prod.fst).Pairwise (· < ·)) (failed : Option Nat) :
    ∃ table, clearRun vs tags (s, failed) =
      ({ s with
          table := table
          handed := s.handed ++ (tags.filter fun n => verifyFailed (verifyFor vs n)).map verifyReport },
        failed.or (tags.filter fun n => verifyFailed (verifyFor vs n)).head?) ∧
      ∀ n, tableRead table n = if n ∈ tags then (s.record n).clearedBy (verifyFor vs n) else s.record n := by
  induction tags generalizing s failed with
  | nil => exact ⟨s.table, by simp [clearRun], fun n => by simp [State.record]⟩
  | cons k rest ih =>
    obtain ⟨hk, hrest⟩ := List.nodup_cons.1 hnodup
    obtain ⟨table, hrun, hread⟩ := ih hrest (s := s.clearedAt k (verifyFor vs k)) (tableWrite_rising _ _ hrising)
      (if !verifyFailed (verifyFor vs k) then failed else some (failed.getD k))
    refine ⟨table, ?_, fun n => ?_⟩
    · simp only [clearRun, s.replaceRecord_cleared, hrun]
      cases hv : verifyFailed (verifyFor vs k) with
      | true => cases failed <;> simp [State.clearedAt, hv]
      | false => simp [State.clearedAt, hv]
    · rw [hread n]
      have hother (hn : n ≠ k) : (s.clearedAt k (verifyFor vs k)).record n = s.record n := s.record_setRecord_other _ hn
      by_cases hnk : n = k
      · subst hnk
        rw [if_neg hk, if_pos List.mem_cons_self]
        exact s.record_setRecord_same n _ hrising
      · simp only [List.mem_cons, hnk, false_or, hother hnk]

theorem mem_bankTags {b : BankId} {n : Nat} : n ∈ bankTags b ↔ n < 4095 ∧ n / 1024 = b.val := by
  have hb := b.isLt
  simp only [bankTags, List.mem_filter, List.mem_map, List.mem_range, decide_eq_true_eq]
  constructor
  · rintro ⟨⟨k, hk, rfl⟩, hn⟩
    omega
  · rintro ⟨hn, hq⟩
    exact ⟨⟨n - 1024 * b.val, by omega, by omega⟩, hn⟩

theorem pairwise_lt_map_add (c m : Nat) : ((List.range m).map fun k => c + k).Pairwise (· < ·) :=
  List.Pairwise.map _ (fun _ _ h => Nat.add_lt_add_left h c) List.pairwise_lt_range

theorem bankTags_rising (b : BankId) : (bankTags b).Pairwise (· < ·) := by
  rw [bankTags]
  exact (pairwise_lt_map_add _ _).filter _

/-- The tags of a bank, picked out of all usable ones (R1). -/
theorem bankTags_eq (b : BankId) : bankTags b = (List.range 4095).filter fun n => decide (n / 1024 = b.val) := by
  refine (bankTags_rising b).eq_of_mem_iff (List.pairwise_lt_range.filter _) fun n => ?_
  rw [mem_bankTags, List.mem_filter, List.mem_range, decide_eq_true_eq]

theorem verifyFor_eq (vs : List (UsableTag × Verify)) (n : Nat) :
    verifyFor vs n = ((vs.find? fun x => decide (x.1.val = n)).map Prod.snd).getD .stands := by
  unfold verifyFor
  split <;> rename_i h <;> rw [h] <;> rfl

theorem State.applyClearBank_of_run {s t : State} {p : Nat} {b : BankId} {vs : List (UsableTag × Verify)} {failed : List Nat}
    (hrun : clearRun vs (bankTags b) (s, none) = (t, failed.head?)) :
    s.applyClearBank p b vs = t.recordOutcome p (failed.headD 0) (if failed = [] then .applied else .failed) := by
  unfold State.applyClearBank
  rw [hrun]
  cases failed with
  | nil => rfl
  | cons n rest => rw [if_neg (List.cons_ne_nil n rest)]; rfl

/-- What a CLEAR_BANK leaves, with the tags whose verify failed twice (R62). -/
theorem exec_clearBank {s : State} {p : Nat} {b : BankId} (vs : List (UsableTag × Verify))
    (hn : s.nextEdit = some (p, .clearBank b)) (hwf : tableWf s.table = true) {failed : List Nat}
    (hf : ((bankTags b).filter fun n => verifyFailed (verifyFor vs n)) = failed) :
    ∃ table, exec (.clearBank vs) s = .next { s with
        table := table
        handed := s.handed ++ failed.map verifyReport
        batch := { s.batch with
          outcomes := s.batch.outcomes ++
            [{ position := p, tag := failed.headD 0, result := if failed = [] then .applied else .failed }] } } ∧
      ∀ n, tableRead table n = if n ∈ bankTags b then (s.record n).clearedBy (verifyFor vs n) else s.record n := by
  obtain ⟨table, hrun, hread⟩ := clearRun_spec vs ((bankTags_rising b).imp Nat.ne_of_lt) (tableWf_rising hwf) none
  refine ⟨table, ?_, hread⟩
  rw [hf, Option.none_or] at hrun
  simp only [exec, execClearBank, hn]
  exact congrArg _ (State.applyClearBank_of_run hrun)

/-- Settles O58: the list order decides the next edit, and a run over the tags of a bank clears it. -/
theorem editsAreTakenInListOrder : Obligations.EditsAreTakenInListOrder := by
  unfold Obligations.EditsAreTakenInListOrder
  refine ⟨fun b p image e s hh ha hb hp he heb hopen hdone => ?_, fun vs p b s hn hwf => ?_⟩
  · rw [State.nextEdit, if_pos ⟨hh, ha⟩, State.bankInProgress_eq hb]
    exact firstEdit_eq hp he heb hopen hdone
  · intro verify inBank failed
    have hverify : verifyFor vs = verify := funext (verifyFor_eq vs)
    have hfailed : ((bankTags b).filter fun n => verifyFailed (verifyFor vs n)) = failed := by
      rw [bankTags_eq, List.filter_filter, hverify]
      refine List.filter_congr fun n _ => ?_
      rw [Bool.and_comm]
      refine congrArg (_ && ·) ?_
      cases verify n <;> rfl
    obtain ⟨table, hexec, hread⟩ := exec_clearBank vs hn hwf hfailed
    rw [hverify] at hread
    simp only [mem_bankTags] at hread
    refine ⟨_, hexec, fun n hout => (hread n).trans (if_neg hout), fun n hin hv => (hread n).trans ?_,
      fun n read hin hv => (hread n).trans ?_, rfl⟩
    · rw [if_pos hin]
      rcases hv with hv | hv <;> rw [hv] <;> rfl
    · rw [if_pos hin, hv]
      rfl

end Sys2Proof.Machine
end

section
namespace Sys2Proof.Machine

/-! ## O60: the start, the banks and the end of an apply -/

/-- The lease logic takes the end of a batch: an OVERDUE lease is released and its loss reported (R173). -/
def State.leaseTold (u : State) (l : Lease) (handed : List Handed) : State :=
  match l with
  | .overdue o => { u with lease := .free, handed := handed ++ [{ block := .leaseLogic, report := leaseLost o 1 }] }
  | .free | .held _ _ => u

theorem State.batchEndSignal_eq (u : State) : u.batchEndSignal = u.leaseTold u.lease u.handed := by
  unfold State.batchEndSignal
  cases u.lease <;> rfl

/-- The end of a committed batch before the lease logic is told, by its parts (R63). -/
theorem State.finishBatch_signal {s : State} {o : Origin} {seq : BitVec 16} (hc : s.batch.commit = some (o, seq)) (st : Status)
    (applied : List BankId) (os : List Outcome) : s.finishBatch st applied os =
      (s.discardBatch.deliverCommit o seq st (commitBody s.batch applied os)).batchEndSignal := by
  simp only [State.finishBatch, hc]

/-- The end of a committed batch, as its parts: the batch ended, its response cached and offered, the lease told (R63). -/
theorem State.finishBatch_eq {s : State} {o : Origin} {seq : BitVec 16} (hc : s.batch.commit = some (o, seq)) (st : Status)
    (applied : List BankId) (os : List Outcome) : s.finishBatch st applied os =
      (s.discardBatch.deliverCommit o seq st (commitBody s.batch applied os)).leaseTold s.lease s.handed := by
  have hl : (s.discardBatch.deliverCommit o seq st (commitBody s.batch applied os)).lease = s.lease :=
    State.offerResponse_lease _ o _
  have hh : (s.discardBatch.deliverCommit o seq st (commitBody s.batch applied os)).handed = s.handed :=
    (RequestFrame.offerResponse _ o _).handed
  rw [State.finishBatch_signal hc, State.batchEndSignal_eq, hl, hh]

theorem commitBody_empty {b : Batch} (h : b.staging = []) : commitBody b [] [] = [b.id, 0, 0, 0, 0, 0, 0, 0] := by
  rw [commitBody, h]
  rfl

/-- A mask of banks is the one number below 16 that has their bits (R64). -/
theorem bankMask_eq {banks : List BankId} {x : Byte} (hx : x.toNat < 16)
    (hbits : ∀ k : BankId, x.getLsbD k.val = true ↔ k ∈ banks) : bankMask banks = x := by
  have hsmall : ∀ n : Fin 16, allFour.foldl
      (fun m b => if (BitVec.ofNat 8 n.val).getLsbD b.val = true then m ||| (1#8 <<< b.val) else m) 0#8 = BitVec.ofNat 8 n.val := by
    decide
  have hself := hsmall ⟨x.toNat, hx⟩
  simp only [BitVec.ofNat_toNat, BitVec.setWidth_eq, hbits] at hself
  exact hself

theorem mem_touchedBanks {staging : List Image} {k : BankId} :
    k ∈ touchedBanks staging ↔ ∃ i ∈ staging, ∃ e, editOf i = some e ∧ e.bank = k := by
  have hall : ∀ k : BankId, k ∈ allFour := by decide
  simp only [touchedBanks, List.mem_filter, hall, true_and, any_fallsIn_iff]

theorem bankMask_touched {staging : List Image} {x : Byte} (hx : x.toNat < 16)
    (hbits : ∀ k : BankId, x.getLsbD k.val = true ↔ ∃ i ∈ staging, ∃ e, editOf i = some e ∧ e.bank = k) :
    bankMask (touchedBanks staging) = x :=
  bankMask_eq hx fun k => (hbits k).trans mem_touchedBanks.symm

/-- The touched banks above one, when one of them is the lowest (R54). -/
theorem touchedAbove_lowest {staging : List Image} {b k : BankId} (hk : k ∈ touchedBanks staging) (hbk : b < k)
    (hlow : ∀ j, b < j → j < k → j ∉ touchedBanks staging) :
    ∃ rest, ((touchedBanks staging).filter fun j => decide (b < j)) = k :: rest := by
  have hsorted : ((touchedBanks staging).filter fun j => decide (b < j)).Pairwise (· < ·) := by
    have hfour : allFour.Pairwise (· < ·) := by decide
    exact (hfour.filter _).filter _
  cases hf : (touchedBanks staging).filter fun j => decide (b < j) with
  | nil => exact absurd (decide_eq_true hbk) (List.filter_eq_nil_iff.1 hf k hk)
  | cons j rest =>
    have hj : j ∈ (touchedBanks staging).filter fun j => decide (b < j) := hf ▸ List.mem_cons_self
    have hkf : k ∈ j :: rest := hf ▸ List.mem_filter.2 ⟨hk, decide_eq_true hbk⟩
    obtain ⟨hjt, hbj⟩ := List.mem_filter.1 hj
    rw [hf] at hsorted
    rcases List.mem_cons.1 hkf with rfl | hrest
    · exact ⟨rest, rfl⟩
    · exact absurd hjt (hlow j (of_decide_eq_true hbj) (List.rel_of_pairwise_cons hsorted hrest))

theorem touchedAbove_nil {staging : List Image} {b : BankId} :
    ((touchedBanks staging).filter fun j => decide (b < j)) = [] ↔ ∀ k, b < k → k ∉ touchedBanks staging := by
  rw [List.filter_eq_nil_iff]
  exact ⟨fun h k hk hm => h k hm (decide_eq_true hk), fun h k hm hk => h k (of_decide_eq_true hk) hm⟩

/-- The bank end, by the touched banks above (R54): the next bank, or the end of the batch, cut or whole. -/
theorem State.bankEnd_moves {s : State} {b k : BankId} (hk : k ∈ touchedBanks s.batch.staging) (hbk : b < k)
    (hlow : ∀ j, b < j → j < k → j ∉ touchedBanks s.batch.staging) (ha : s.batch.abortPending = false) :
    s.bankEnd b = (s.setBank b .serving).setBank k .updating := by
  obtain ⟨rest, hrest⟩ := touchedAbove_lowest hk hbk hlow
  simp only [State.bankEnd, hrest, ha, Bool.false_eq_true, if_false]

/-- The status and the applied banks of a batch that ends with the bank in progress (R63, R64). -/
theorem State.bankEnd_ends {s : State} {b : BankId}
    (h : (∀ k, b < k → k ∉ touchedBanks s.batch.staging) ∨ s.batch.abortPending = true) :
    ∃ applied, (∀ k, k ∈ applied ↔ k ∈ touchedBanks s.batch.staging ∧ k ≤ b) ∧
      s.bankEnd b = (s.setBank b .serving).finishBatch
        (if ∃ k, b < k ∧ k ∈ touchedBanks s.batch.staging then .aborted
          else if ∀ x ∈ s.batch.outcomes, x.result = .applied then .ok else .partialDone) applied s.batch.outcomes := by
  by_cases hnone : ∀ k, b < k → k ∉ touchedBanks s.batch.staging
  · refine ⟨touchedBanks s.batch.staging, fun k => ⟨fun hk => ⟨hk, not_lt.1 fun hb => hnone k hb hk⟩, And.left⟩, ?_⟩
    have hno : ¬∃ k, b < k ∧ k ∈ touchedBanks s.batch.staging := fun ⟨k, hb, hk⟩ => hnone k hb hk
    rw [if_neg hno]
    simp only [State.bankEnd, touchedAbove_nil.2 hnone, completionStatus, List.all_eq_true, decide_eq_true_eq]
  · have hsome : ∃ k, b < k ∧ k ∈ touchedBanks s.batch.staging := by
      simpa only [not_forall, not_not, exists_prop] using hnone
    refine ⟨_, fun k => List.mem_filter.trans (and_congr_right fun _ => decide_eq_true_iff), ?_⟩
    rw [if_pos hsome]
    simp only [State.bankEnd, h.resolve_left hnone, if_true]
    split
    · rfl
    · rename_i hf
      exact absurd (touchedAbove_nil.1 hf) hnone

theorem exec_bankEnd {s : State} {b : BankId} (hheld : s.held = false) (ha : s.batch.state = .applying)
    (hb : ∀ k, s.bank k = .updating ↔ k = b) (hn : s.nextEdit = none) : exec .bankEnd s = .next (s.bankEnd b) := by
  simp only [exec, execBankEnd, hheld, ha, hn, and_self, if_true, State.bankInProgress_eq hb]

theorem Outcome.bytes_eq (x : Outcome) : x.bytes = BitVec.ofNat 8 x.position :: natBytes16 x.tag ++
    [match x.result with | .applied => 1#8 | .skipped => 2#8 | .failed => 3#8] := by
  unfold Outcome.bytes
  cases x.result <;> rfl

/-- Settles O60: APPLY_START and BANK_END by the touched banks, the end of a batch through its parts. -/
theorem appliesGoBankByBank : Obligations.AppliesGoBankByBank := by
  unfold Obligations.AppliesGoBankByBank
  intro s hheld touches ended delivered released
  have hstart : exec .applyStart s = .next s.tryStart := by simp [exec, execApplyStart, hheld]
  have htouches (k : BankId) : touches k ↔ k ∈ touchedBanks s.batch.staging := mem_touchedBanks.symm
  have htold (u : State) : u.leaseTold s.lease s.handed = released u := by
    simp only [State.leaseTold, released]
    cases s.lease <;> rfl
  refine ⟨fun hw he => ⟨fun b hb hlow => ?_, fun hnil o seq hc => ?_⟩, fun h => ?_, fun b ha hb hn => ⟨?_, ?_⟩⟩
  · obtain ⟨rest, hrest⟩ := touchedBanks_lowest ((any_fallsIn_iff _ b).2 hb) fun k hk h => hlow k hk ((any_fallsIn_iff _ k).1 h)
    rw [hstart, State.tryStart_begins hw he hrest]
  · have hnone : touchedBanks s.batch.staging = [] := by rw [hnil]; rfl
    rw [hstart, State.tryStart, if_pos ⟨hw, he⟩]
    simp only [State.startApply, hnone, State.finishBatch_eq hc, htold, commitBody_empty hnil]
    rfl
  · rw [hstart, State.tryStart_waits h]
  · intro k hbk hk hlow habort
    rw [exec_bankEnd hheld ha hb hn, State.bankEnd_moves ((htouches k).1 hk) hbk (fun j hj hjk => mt (htouches j).2 (hlow j hj hjk))
      habort]
  · intro hlast o seq hc touched applied ht htbits happ happbits count entries status
    simp only [htouches] at hlast happbits
    obtain ⟨banks, hmem, hend⟩ := State.bankEnd_ends hlast
    have hstatus : (if ∃ k, b < k ∧ k ∈ touchedBanks s.batch.staging then Status.aborted
        else if ∀ x ∈ s.batch.outcomes, x.result = .applied then .ok else .partialDone) = status := by
      simp only [status, htouches]
    have hbody : commitBody s.batch banks s.batch.outcomes =
        [s.batch.id, BitVec.ofNat 8 s.batch.staging.length, touched, applied, count .applied, count .skipped, count .failed,
          BitVec.ofNat 8 entries.length] ++ entries.flatMap fun x => BitVec.ofNat 8 x.position :: natBytes16 x.tag ++
            [match x.result with | .applied => 1#8 | .skipped => 2#8 | .failed => 3#8] := by
      rw [commitBody, bankMask_touched ht htbits, bankMask_eq happ fun k => (happbits k).trans (hmem k).symm,
        funext Outcome.bytes_eq]
      rfl
    rw [exec_bankEnd hheld ha hb hn, hend, hstatus,
      State.finishBatch_eq (s := s.setBank b .serving) (o := o) (seq := seq) hc]
    refine congrArg _ ((htold _).trans (congrArg released ?_))
    refine congrArg (State.deliverCommit _ o seq status) ?_
    exact hbody

end Sys2Proof.Machine
end

section
namespace Sys2Proof.Machine

/-! ## O52: BATCH_COMMIT and BATCH_ABORT -/

/-! ### A request that is accepted without a response (R50) -/

/-- While the destination can be reached, only the lease logic takes a request (R147, R184). -/
theorem State.follow_reached {s : State} (hu : s.notices.unreachable = false) (leased : Bool) (o : Origin) :
    s.follow leased o = if leased then s.renewFor o else s := by
  have hcontact (t : State) (ht : t.notices.unreachable = false) : t.contact o = t := by
    unfold State.contact
    rw [ht]
  refine hcontact _ ?_
  split
  · unfold State.renewFor
    split <;> exact hu
  · exact hu

theorem State.entryOf_onEntry {s : State} {o : Origin} {x : OriginEntry} (hx : s.entryOf o = some x)
    {f : OriginEntry → OriginEntry} (hf : ∀ e, (f e).origin = e.origin) : (s.onEntry o f).entryOf o = some (f x) := by
  have hp : (fun e : OriginEntry => decide (e.origin = o)) ∘ (fun e => if e.origin = o then f e else e) =
      fun e => decide (e.origin = o) := by
    funext e
    by_cases h : e.origin = o <;> simp [h, hf]
  have ho : x.origin = o := by simpa using List.find?_some hx
  rw [State.entryOf] at hx ⊢
  rw [State.onEntry, List.find?_map, hp, hx, Option.map_some, if_pos ho]

/-- What taking a request comes to, by what its block makes of it. -/
theorem takeRequest_concluded {s e : State} {m : HandCell} {rest : List HandCell} {code : Byte} {reply : Reply}
    {handler : Request → State → State × Reply} (ht : Takes s m rest code) (hr : Reaches s m)
    (hcat : catalogue.contains code = true) (hh : handler m.request (s.entered m rest) = (e, reply))
    (hhands : (e.concluded (s.needsLease code) m.request reply).agent.hands = rest) :
    s.takeRequest (isCode code) handler = settleHands rest (e.concluded (s.needsLease code) m.request reply) := by
  obtain ⟨hheld, hcells, hv, rfl⟩ := ht
  have hneeds : (s.entered m rest).needsLease m.request.code = s.needsLease m.cell.code := by
    rw [State.needsLease, s.entered_sameBlocks m rest]; rfl
  have hmine : isCode m.cell.code m.cell.code = true := decide_eq_true rfl
  simp only [State.takeRequest, hcells, hheld, hv, hmine, and_self, if_true, State.execute,
    State.handled_of_reaches hr hcat, hh, hneeds, hhands]

/-- What an accepted request of the lease's holder leaves of the lease, of its entry, and of the queues. -/
theorem accepted_leaves {e : State} {r : Request} {rest : List HandCell} {x : OriginEntry}
    (hl : e.lease.holder = some r.origin) (hx : e.entryOf r.origin = some x) :
    let t := settleHands rest (e.concluded true r .accepted)
    t.lease = .held r.origin e.agent.settings.leasePeriod.toNat ∧ t.entryOf r.origin = some x ∧
      (rest = [] → e.notices.unreachable = false → t.queues = e.queues ∧ t.agentCtr = e.agentCtr) := by
  obtain ⟨-, hagent, hlease⟩ := e.follow_frame true r.origin
  obtain ⟨-, horigins, hkept, -⟩ := settleHands_frame rest (e.follow true r.origin)
  refine ⟨hkept.trans (hlease.trans (if_pos ⟨rfl, hl⟩)), ?_, fun hrest hu => ?_⟩
  · rw [State.entryOf] at hx ⊢
    rw [State.concluded, horigins, hagent, hx]
  · have hrenew : e.follow true r.origin = e.leaseTo r.origin := by
      rw [State.follow_reached hu, if_pos rfl, State.renewFor, if_pos hl]
    rw [hrest, State.concluded, hrenew]
    exact ⟨rfl, rfl⟩

/-! ### The handlers, by their checks -/

/-- A batch that its origin has committed: WAITING, with the commit owed to its entry (R50, R145). -/
def State.committed (s : State) (r : Request) : State :=
  State.onEntry { s with batch := { s.batch with state := .waiting, commit := some (r.origin, r.seq) } } r.origin
    fun e => { e with resp := .pending, owed := some r.seq }

theorem handleBatchCommit_malformed {r : Request} (s : State) (h : r.body.length ≠ 4) : handleBatchCommit r s = malformed s := by
  unfold handleBatchCommit
  split
  · rename_i hb
    simp [hb] at h
  · rfl

theorem handleBatchCommit_opened {r : Request} {s : State} {count d1 d0 : Byte} (hb : r.body = [s.batch.id, count, d1, d0])
    (ho : s.batch.state = .opened) : handleBatchCommit r s =
      if count.toNat ≠ s.batch.staging.length then (s, .answer .count [BitVec.ofNat 8 s.batch.staging.length])
      else if d1 ++ d0 ≠ digestOf s.batch.staging then (s, .answer .digest (bytes16 (digestOf s.batch.staging)))
      else ((s.committed r).tryStart, .accepted) := by
  simp only [handleBatchCommit, hb, ho, ne_eq, not_true_eq_false, if_false]
  rfl

theorem handleBatchAbort_malformed {r : Request} (s : State) (h : r.body.length ≠ 1) :
    handleBatchAbort r s = (s, .answer .malformed [s.batch.id, s.batch.state.code]) := by
  unfold handleBatchAbort
  split
  · rename_i hb
    simp [hb] at h
  · rfl

theorem handleBatchAbort_noBatch {r : Request} {s : State} {bid : Byte} (hb : r.body = [bid])
    (h : s.batch.state = .none ∨ bid ≠ s.batch.id ∨ bid = 0) :
    handleBatchAbort r s = (s, .answer .noBatch [s.batch.id, s.batch.state.code]) := by
  simp only [handleBatchAbort, hb]
  by_cases hid : bid ≠ s.batch.id ∨ bid = 0
  · rw [if_pos hid]
  · rw [if_neg hid, h.resolve_right hid]

theorem handleBatchAbort_named {r : Request} {s : State} (hb : r.body = [s.batch.id]) (h0 : s.batch.id ≠ 0) :
    handleBatchAbort r s = match s.batch.state with
      | .none => (s, .answer .noBatch [s.batch.id, s.batch.state.code])
      | .opened => (s.discardBatch, .answer .ok [s.batch.id, 0])
      | .waiting => (s.finishBatch .aborted [] [], .answer .ok [s.batch.id, 0])
      | .applying => ({ s with batch := { s.batch with abortPending := true } }, .answer .ok [s.batch.id, 3]) := by
  have hid : ¬(s.batch.id ≠ s.batch.id ∨ s.batch.id = 0) := fun h => h.elim (· rfl) h0
  simp only [handleBatchAbort, hb, if_neg hid] <;> rfl

theorem BatchState.code_eq (x : BatchState) :
    x.code = match x with | .none => 0 | .opened => 1 | .waiting => 2 | .applying => 3 := by
  cases x <;> rfl

/-- The body of the commit response of a batch of which nothing was applied (R64, R66). -/
theorem commitBody_unapplied (b : Batch) : commitBody b [] [] =
    [b.id, BitVec.ofNat 8 b.staging.length, bankMask (touchedBanks b.staging), 0, 0, 0, 0, 0] := by
  have hentries : responseEntries b.staging.length [] = [] := by simp [responseEntries]
  rw [commitBody, hentries]
  rfl

/-- Settles O52: the checks in order; the accepted commit and the end of a batch through their parts. -/
theorem batchesAreCommittedAndAborted : Obligations.BatchesAreCommittedAndAborted := by
  unfold Obligations.BatchesAreCommittedAndAborted
  intro m rest s hr r stateCode falls ended digest onEntry delivered released
  have hcode : s.batch.state.code = stateCode := BatchState.code_eq _
  have hstate : s.batch.stateAndId = [stateCode, s.batch.id] := s.batch.stateAndId_eq
  have hdigest : digestOf s.batch.staging = digest := digestOf_eq _
  have hfinish {u : State} {o : Origin} {seq : BitVec 16} {st : Status} {body : List Byte}
      (hl : u.lease = s.lease) (ha : u.agent.address = s.agent.address) (hs : u.agent.settings = s.agent.settings)
      (hc : u.batch.commit = some (o, seq)) (he : u.batch.ended = ended) (hb : commitBody u.batch [] [] = body) :
      u.finishBatch st [] [] = released (delivered u o seq st body) := by
    have hlease : (u.discardBatch.deliverCommit o seq st body).lease = s.lease :=
      (State.offerResponse_lease _ o _).trans hl
    have hparts : delivered u o seq st body = u.discardBatch.deliverCommit o seq st body := by
      have hcell : u.discardBatch.response o seq 0x22 st body = s.response o seq 0x22 st body :=
        State.response_congr ha hs _ _ _ _ _
      have hended : u.discardBatch = { u with batch := ended } := by rw [State.discardBatch, he]
      unfold State.deliverCommit
      dsimp only
      rw [hcell, hended]
      rfl
    rw [State.finishBatch_signal hc, State.batchEndSignal_eq, hb, hlease, hparts]
    simp only [State.leaseTold, released]
    cases s.lease <;> rfl
  refine ⟨fun ht => ?_, fun ht => ?_⟩
  · have unchanged {st : Status} {body : List Byte} (hh : handleBatchCommit r (s.entered m rest) = _) :
        Serves .batchCommit s true id r st body :=
      serves_unchanged rfl rfl (s.needsLease_of_leased rfl) ht hr hh
    refine ⟨fun hb => unchanged (handleBatchCommit_malformed _ hb), fun bid count d1 d0 hb => ⟨fun hc => unchanged ?_,
      fun hn => unchanged ?_, fun ho hid => ?_⟩⟩
    · rcases hc with hc | hc <;> simp only [handleBatchCommit, hb, State.entered_batch, hc, hstate]
    · rcases hn with hn | ⟨ho, hid⟩
      · simp only [handleBatchCommit, hb, State.entered_batch, hn, hstate]
      · simp only [handleBatchCommit, hb, State.entered_batch, ho, hstate, if_pos hid]
    subst hid
    have hbody := handleBatchCommit_opened (s := s.entered m rest) (by rw [State.entered_batch]; exact hb)
      (by rw [State.entered_batch]; exact ho)
    rw [State.entered_batch, hdigest] at hbody
    refine ⟨fun hcount => unchanged (by rw [hbody, if_pos hcount]),
      fun hcount hd => unchanged (by rw [hbody, if_neg (not_not.2 hcount), if_pos hd]), fun hcount hd => ?_⟩
    rw [if_neg (not_not.2 hcount), if_neg (not_not.2 hd)] at hbody
    intro accepted leaves owing
    have hneeds : s.needsLease 0x22 = true := s.needsLease_of_leased rfl
    have hcommitted : (s.entered m rest).committed r = accepted .waiting (s.entered m rest) := by
      simp only [State.committed, State.entered_batch]
      rfl
    have hleaves {e : State} (he : ((s.entered m rest).committed r).tryStart = e) (hhands : e.agent.hands = rest) :
        leaves e := by
      rw [he] at hbody
      have hexec := takeRequest_concluded ht hr rfl hbody ((congrArg Agent.hands (e.follow_frame _ _).2.1).trans hhands)
      rw [hneeds] at hexec
      exact congrArg _ hexec
    have howing {x : BatchState} {banks : Vector BankState 4}
        (he : ((s.entered m rest).committed r).tryStart = { accepted x (s.entered m rest) with banks := banks }) :
        owing x banks := by
      have hl := hleaves he (s.entered_hands m rest)
      obtain ⟨y, hy, hseq, -⟩ := s.entered_entry m rest
      have hentry := State.entryOf_onEntry hy (f := fun e => { e with resp := .pending, owed := some m.cell.reqSeq })
        fun _ => rfl
      have hholder : s.lease.holder = some m.origin := hr.2.2 (by rw [ht.2.2.2]; exact hneeds)
      obtain ⟨htlease, htentry, htrest⟩ := accepted_leaves (r := r) (rest := rest)
        (e := { accepted x (s.entered m rest) with banks := banks })
        (by exact (congrArg Lease.holder (s.entered_lease m rest)).trans hholder) hentry
      refine ⟨hl, _, hl, htlease.trans ?_, ⟨_, htentry, hseq, rfl, rfl⟩, fun hrest hu => ?_⟩
      · exact congrArg (fun z : Settings => Lease.held m.origin z.leasePeriod.toNat) (s.entered_settings m rest)
      · obtain ⟨hq, hctr⟩ := htrest hrest ((congrArg Notices.unreachable (s.entered_notices m rest)).trans hu)
        exact ⟨hq.trans (s.entered_queues m rest), hctr⟩
    have hbanks : (s.entered m rest).banks = s.banks := (s.entered_sameBlocks m rest).frame.banks
    have hqueue : (((s.entered m rest).committed r).queue hq).entries = (s.queue hq).entries :=
      congrArg Queue.entries (s.entered_queue m rest hq)
    refine ⟨fun hne => howing ?_, fun hnil b hb hlow => howing ?_, fun hnil hstaging => ?_⟩
    · rw [State.tryStart_waits (.inr (by rw [hqueue]; exact hne)), hcommitted, ← hbanks]
    · have hlowest : ∀ k < b, ¬s.batch.staging.any (fallsIn k) = true := fun k hk h => by
        obtain ⟨i, hi, hf⟩ := (any_fallsIn_iff _ k).1 h
        exact hlow k hk i hi hf
      obtain ⟨others, htouched⟩ := touchedBanks_lowest ((any_fallsIn_iff _ b).2 hb) hlowest
      have hbegins := State.tryStart_begins (u := (s.entered m rest).committed r) rfl (hqueue.trans hnil)
        (by rw [hcommitted]; exact htouched)
      rw [hbegins, hcommitted, State.setBank, ← hbanks]
    · have hnone : touchedBanks s.batch.staging = [] := by rw [hstaging]; rfl
      have hend : (accepted .waiting (s.entered m rest)).finishBatch .ok [] [] = _ :=
        hfinish (s.entered_lease m rest) (s.entered_address m rest) (s.entered_settings m rest) rfl rfl
          (commitBody_empty hstaging)
      have hstart : (accepted .waiting (s.entered m rest)).startApply =
          (accepted .waiting (s.entered m rest)).finishBatch .ok [] [] := by
        unfold State.startApply
        rw [show touchedBanks (accepted .waiting (s.entered m rest)).batch.staging = [] from hnone]
      refine hleaves ?_ ?_
      · rw [State.tryStart, if_pos ⟨rfl, hqueue.trans hnil⟩, hcommitted]
        exact hstart.trans hend
      · rw [← hend]
        exact (EntriesKept.finishBatch _ _ _ _).hands.trans (s.entered_hands m rest)
  · have served {effect : State → State} {st : Status} {body : List Byte}
        (hh : handleBatchAbort r (s.entered m rest) = (effect (s.entered m rest), .answer st body))
        (hs : SameBlocks (effect s) (effect (s.entered m rest)))
        (hk : EntriesKept (s.entered m rest) (effect (s.entered m rest))) : Serves .batchAbort s true effect r st body :=
      serves_effect rfl rfl (s.needsLease_of_leased rfl) ht hr hh hs hk
    have hsame := s.entered_sameBlocks m rest
    refine ⟨fun hb => served ?_ hsame (.of_eq rfl), fun bid hb => ⟨fun hn => served ?_ hsame (.of_eq rfl), fun hid h0 => ?_⟩⟩
    · rw [handleBatchAbort_malformed _ hb, State.entered_batch, hcode]
      rfl
    · rw [handleBatchAbort_noBatch hb (by rw [State.entered_batch]; exact hn), State.entered_batch, hcode]
      rfl
    subst hid
    have hbody := handleBatchAbort_named (s := s.entered m rest) (by rw [State.entered_batch]; exact hb)
      (by rw [State.entered_batch]; exact h0)
    rw [State.entered_batch] at hbody
    refine ⟨fun ho => served ?_ ?_ (.of_eq rfl), fun ha => served ?_ ?_ (.of_eq rfl), fun hw o seq hc touched hbits hsmall => ?_⟩
    · simp only [hbody, ho, State.discardBatch, State.entered_batch]
      rfl
    · rw [hsame]; rfl
    · simp only [hbody, ha, State.entered_batch]
    · rw [hsame]; rfl
    · have hcommit : commitBody s.batch [] [] =
          [s.batch.id, BitVec.ofNat 8 s.batch.staging.length, touched, 0, 0, 0, 0, 0] := by
        rw [commitBody_unapplied, bankMask_touched hsmall hbits]
      have heffect {u : State} (hu : SameBlocks s u) : released (delivered u o seq .aborted
          [s.batch.id, BitVec.ofNat 8 s.batch.staging.length, touched, 0, 0, 0, 0, 0]) = u.finishBatch .aborted [] [] := by
        have hbatch : u.batch = s.batch := by rw [hu]
        exact (hfinish (by rw [hu]) (by rw [hu]) (by rw [hu]) (by rw [hbatch]; exact hc) (by rw [hbatch]; rfl)
          (by rw [hbatch]; exact hcommit)).symm
      refine served ?_ ?_ ?_
      · simp only [hbody, hw, heffect hsame]
      · rw [heffect hsame, heffect (u := s) rfl]
        exact hsame.finishBatch _ _ _
      · rw [heffect hsame]
        exact .finishBatch _ _ _ _

end Sys2Proof.Machine
end

section
namespace Sys2Proof.Machine

/-! ## O50: NODE_RESET -/

/-! ### Queues that a reset drains (R84, R92) -/

/-- Each queue keeps its floor and its ceiling, and an empty one stays empty. -/
def Drained (v w : Vector Queue 15) : Prop :=
  ∀ q : QueueId, w[q].floor = v[q].floor ∧ w[q].ceiling = v[q].ceiling ∧ (v[q].entries = [] → w[q].entries = [])

theorem Drained.refl (v : Vector Queue 15) : Drained v v := fun _ => ⟨rfl, rfl, id⟩

theorem Drained.trans {u v w : Vector Queue 15} (h : Drained u v) (k : Drained v w) : Drained u w := fun q =>
  let ⟨hf, hc, he⟩ := h q
  let ⟨kf, kc, ke⟩ := k q
  ⟨kf.trans hf, kc.trans hc, fun x => ke (he x)⟩

theorem Drained.flush (s : State) (q : QueueId) : Drained s.queues (s.flush q).queues := fun k => by
  change ((s.flush q).queue k).floor = (s.queue k).floor ∧ ((s.flush q).queue k).ceiling = (s.queue k).ceiling ∧
    ((s.queue k).entries = [] → ((s.flush q).queue k).entries = [])
  by_cases h : k = q
  · rw [h, State.queue_flush_same]
    exact ⟨rfl, rfl, fun _ => rfl⟩
  · rw [s.queue_flush_other h]
    exact ⟨rfl, rfl, id⟩

/-- Flushing some queues empties these and changes nothing but queues. -/
theorem foldl_flush (l : List QueueId) (s : State) :
    ∃ qs, l.foldl State.flush s = { s with queues := qs } ∧ Drained s.queues qs ∧ ∀ q ∈ l, qs[q].entries = [] := by
  induction l generalizing s with
  | nil => exact ⟨s.queues, rfl, .refl _, by simp⟩
  | cons q rest ih =>
    obtain ⟨qs, heq, hdrained, hempty⟩ := ih (s.flush q)
    refine ⟨qs, heq, (Drained.flush s q).trans hdrained, fun k hk => ?_⟩
    rcases List.mem_cons.1 hk with rfl | hk
    · refine (hdrained k).2.2 ?_
      change ((s.flush k).queue k).entries = []
      rw [State.queue_flush_same]
    · exact hempty k hk

/-! ### A port at a reset (R140) -/

/-- A port that has left its state, but for the new state itself (R119, R126). -/
def Port.stopped (p : Port) : Port :=
  match p.state with
  | .up => { p with
      dropCredit := 0, addCredits := 0, silenceTimer := false, ctr := { p.ctr with upsLost := p.ctr.upsLost + 1 } }
  | .aligning => stopAligning p
  | .down | .off => p

theorem Port.stopped_signal (p : Port) : p.stopped.signal = p.signal := by
  unfold Port.stopped
  cases p.state <;> rfl

/-- A port that has gone DOWN, unless it is OFF. -/
def Port.downed (p : Port) : Port := if p.state = .off then p else { p.stopped with state := .down }

/-- A port as the reset of the node leaves it, before its counters are cleared (R140, R195). -/
def Port.resetTo (p : Port) : Port :=
  if p.state = .off then { p with stallReported := false }
  else if p.signal = true then { p.stopped with stallReported := false }.aligned
  else { p.stopped with state := .down, stallReported := false }

/-- The codes of the changes of state that a reset makes of a port: DOWN, ALIGNING (R127, R140). -/
def Port.resetChanges (p : Port) : List Byte :=
  (if p.state = .aligning ∨ p.state = .up then [1] else []) ++ (if p.state ≠ .off ∧ p.signal = true then [2] else [])

/-- The report of a change of state (R127, R177). -/
def linkReport (n : PortId) (x : Byte) : Report := { type := .linkChange, subject := BitVec.ofNat 16 n.val, detail := .code x }

/-- The reports of a port at a reset. -/
def linkReports (n : PortId) (changes : List Byte) : List Handed :=
  changes.map fun x => { block := .port n, report := linkReport n x }

/-- A state in which one port, queues and the reports handed have been changed. -/
def State.atPort (s : State) (n : PortId) (p : Port) (qs : Vector Queue 15) (hs : List Handed) : State :=
  { s.setPort n p with queues := qs, handed := hs }

section
variable (s : State) (n : PortId) (p : Port) (qs : Vector Queue 15) (hs : List Handed)

@[simp] theorem State.port_atPort : (s.atPort n p qs hs).port n = p := s.port_setPort_same n p

theorem State.atPort_setPort (x : Port) : (s.atPort n p qs hs).setPort n x = s.atPort n x qs hs := by
  simp [State.atPort, State.setPort]

@[simp] theorem State.atPort_onPort (f : Port → Port) : (s.atPort n p qs hs).onPort n f = s.atPort n (f p) qs hs := by
  rw [State.onPort, s.port_atPort, s.atPort_setPort]

@[simp] theorem State.atPort_movePort (x : PortState) : (s.atPort n p qs hs).movePort n x =
    s.atPort n { p with state := x } qs (hs ++ linkReports n [x.code.setWidth 8]) := by
  rw [State.movePort, s.atPort_onPort]
  rfl

theorem State.atPort_tryAlign (hr : s.nodeState = .ready) : (s.atPort n p qs hs).tryAlign n =
    if p.aligns then s.atPort n p.aligned qs (hs ++ linkReports n [2]) else s.atPort n p qs hs := by
  rw [State.tryAlign_ready (s.atPort n p qs hs) n hr, State.port_atPort, State.atPort_setPort]
  rfl

theorem State.eq_atPort : s = s.atPort n (s.port n) s.queues s.handed := by
  have hset : s.ports.set n.val (s.port n) n.isLt = s.ports := by simp [State.port]
  rw [State.atPort, State.setPort, hset]

/-- Leaving UP, but for the change of state (R126). -/
theorem State.leaveUp_atPort : ∃ qs, Drained s.queues qs ∧ s.leaveUp n = s.atPort n
    { s.port n with
      dropCredit := 0, addCredits := 0, silenceTimer := false
      ctr := { (s.port n).ctr with upsLost := (s.port n).ctr.upsLost + 1 } } qs s.handed := by
  generalize hp : ({ s.port n with dropCredit := 0, addCredits := 0, silenceTimer := false } : Port) = p
  have hon : s.onPort n (fun p => { p with dropCredit := 0, addCredits := 0, silenceTimer := false }) =
      s.atPort n p s.queues s.handed := by rw [← hp]; rfl
  have hdrop : Drained s.queues ((s.atPort n p s.queues s.handed).flush (dq n)).queues := Drained.flush _ _
  have hctr (qs : Vector Queue 15) : (s.atPort n p qs s.handed).countPort n (fun k => { k with upsLost := k.upsLost + 1 }) =
      s.atPort n { p with ctr := { p.ctr with upsLost := p.ctr.upsLost + 1 } } qs s.handed := by
    rw [State.countPort, State.atPort_onPort]
  rw [State.leaveUp, hon]
  by_cases h0 : n = 0
  · refine ⟨_, hdrop.trans (Drained.flush _ mql), ?_⟩
    simp only [if_pos h0]
    subst hp
    exact hctr _
  · refine ⟨_, hdrop, ?_⟩
    simp only [if_neg h0]
    subst hp
    exact hctr _

/-- A port that is not OFF goes DOWN, and reports it when it was not DOWN (R127, R140). -/
theorem State.leaveDown_atPort : ∃ qs, Drained s.queues qs ∧
    (if (s.port n).state = .off then s else s.leaveFor n .down) = s.atPort n (s.port n).downed qs
      (s.handed ++ linkReports n (if (s.port n).state = .aligning ∨ (s.port n).state = .up then [1] else [])) := by
  unfold Port.downed Port.stopped State.leaveFor
  cases hst : (s.port n).state with
  | up =>
    obtain ⟨qs, hd, heq⟩ := s.leaveUp_atPort n
    refine ⟨qs, hd, ?_⟩
    rw [if_neg (by simp), heq, s.atPort_movePort]
    rfl
  | aligning =>
    refine ⟨s.queues, .refl _, ?_⟩
    have hon : s.onPort n stopAligning = s.atPort n (stopAligning (s.port n)) s.queues s.handed := rfl
    rw [if_neg (by simp), hon, s.atPort_movePort]
    rfl
  | down =>
    refine ⟨s.queues, .refl _, ?_⟩
    have hdown : ({ s.port n with state := .down } : Port) = s.port n := by rw [← hst]
    simp only [linkReports, reduceCtorEq, or_self, if_false, List.map_nil, List.append_nil, if_true, hdown]
    exact s.eq_atPort n
  | off =>
    refine ⟨s.queues, .refl _, ?_⟩
    simp only [linkReports, reduceCtorEq, or_self, if_false, List.map_nil, List.append_nil, if_true]
    exact s.eq_atPort n

/-- What the reset of a port leaves (R140). -/
theorem State.resetPort_atPort (hr : s.nodeState = .ready) : ∃ qs, Drained s.queues qs ∧ s.resetPort n =
    s.atPort n (s.port n).resetTo qs (s.handed ++ linkReports n (s.port n).resetChanges) := by
  obtain ⟨qs, hd, heq⟩ := s.leaveDown_atPort n
  refine ⟨qs, hd, ?_⟩
  rw [State.resetPort, heq, State.atPort_onPort, State.atPort_tryAlign _ _ _ _ _ hr]
  by_cases hoff : (s.port n).state = .off
  · simp [Port.aligns, Port.downed, Port.resetTo, Port.resetChanges, hoff]
  · have hsignal : (s.port n).stopped.signal = (s.port n).signal := (s.port n).stopped_signal
    cases hs : (s.port n).signal with
    | true =>
      simp [Port.aligns, Port.downed, Port.resetTo, Port.resetChanges, hoff, hs, hsignal, linkReports]
      rfl
    | false => simp [Port.aligns, Port.downed, Port.resetTo, Port.resetChanges, hoff, hs, hsignal]

end

/-- The reset of some ports of a READY node: each by its own state, their reports in their order. -/
theorem foldl_resetPort {l : List PortId} (hl : l.Nodup) {s : State} (hr : s.nodeState = .ready) :
    ∃ ports qs, Drained s.queues qs ∧
      (∀ k : PortId, ports[k] = if k ∈ l then (s.port k).resetTo else s.port k) ∧
      l.foldl State.resetPort s = { s with
        ports := ports
        queues := qs
        handed := s.handed ++ l.flatMap fun n => linkReports n (s.port n).resetChanges } := by
  induction l generalizing s with
  | nil => exact ⟨s.ports, s.queues, .refl _, by simp [State.port], by simp⟩
  | cons n rest ih =>
    obtain ⟨hn, hrest⟩ := List.nodup_cons.1 hl
    obtain ⟨qs, hd, heq⟩ := s.resetPort_atPort n hr
    rw [List.foldl_cons, heq]
    generalize hu : s.atPort n (s.port n).resetTo qs (s.handed ++ linkReports n (s.port n).resetChanges) = u
    have hport (k : PortId) : u.port k = if k = n then (s.port n).resetTo else s.port k := by
      rw [← hu]
      exact s.port_setPort n k _
    have hready : u.nodeState = .ready := by rw [← hu]; exact hr
    obtain ⟨ports, qs', hd', hports, hfold⟩ := ih hrest hready
    refine ⟨ports, qs', ?_, fun k => ?_, ?_⟩
    · rw [← hu] at hd'
      exact hd.trans hd'
    · rw [hports k, hport k]
      by_cases hk : k = n
      · simp [hk, hn]
      · simp [hk]
    · have hsame : (rest.flatMap fun k => linkReports k (u.port k).resetChanges) =
          rest.flatMap fun k => linkReports k (s.port k).resetChanges :=
        List.flatMap_congr fun k hk => by rw [hport k, if_neg fun h : k = n => hn (h ▸ hk)]
      rw [hfold, hsame, ← hu, List.flatMap_cons, ← List.append_assoc]
      rfl

/-! ### The steps of the reset (R195) -/

theorem getElem_mapFour {α : Type} (f : α → α) (v : Vector α 4) (k : Fin 4) : (mapFour f v)[k] = f v[k] := by
  fin_cases k <;> rfl

theorem getElem_mapFifteen {α : Type} (f : α → α) (v : Vector α 15) (k : Fin 15) : (mapFifteen f v)[k] = f v[k] := by
  fin_cases k <;> rfl

/-- A queue without entries, its counters 0 (R92, R195). -/
def Queue.emptied (q : Queue) : Queue :=
  { entries := [], floor := q.floor, ceiling := q.ceiling, admitted := 0, refused := 0, flushed := 0 }

/-- What the steps of NODE_RESET but the response leave, of a READY node (R195). -/
theorem State.nodeReset_eq {s : State} (hr : s.nodeState = .ready) (r : Request) :
    ∃ ports qs,
      (∀ k : PortId, ports[k] = { (s.port k).resetTo with ctr := {} }) ∧
      (∀ q : QueueId, qs[q] = (s.queue q).emptied) ∧
      s.nodeReset r = { s with
        banks := s.stopBanks.banks
        batch := s.batch.ended
        lease := .free
        notices := { Notices.reset with nextNumber := s.notices.nextNumber }
        queues := qs
        ports := ports
        handed := s.handed ++ allFour.flatMap fun n => linkReports n (s.port n).resetChanges
        rx := {}, steer := {}, sched := {}, agentCtr := {}, noticeCtr := {}
        agent := { s.agent with
          origins := [{ origin := r.origin, lastSeq := r.seq, resp := .pending, owed := none }]
          past := s.agent.past.map (·.atReset r.origin r.seq) } } := by
  unfold State.nodeReset
  dsimp only
  generalize hs3 : ({ s.stopBanks.discardBatch with
    lease := .free, notices := { Notices.reset with nextNumber := s.stopBanks.discardBatch.notices.nextNumber } } : State) = s3
  have hall : ∀ q : QueueId, q ∈ allQueues := by decide
  obtain ⟨drained, hflush, hd, hempty⟩ := foldl_flush allQueues s3
  have hready : ({ s3 with queues := drained } : State).nodeState = .ready := by rw [← hs3]; exact hr
  have hfour : allFour.Nodup := by decide
  obtain ⟨ports, qs, hd', hports, hreset⟩ := foldl_resetPort hfour hready
  refine ⟨mapFour (fun p => { p with ctr := {} }) ports,
    mapFifteen (fun q => { q with admitted := 0, refused := 0, flushed := 0 }) qs, fun k => ?_, fun q => ?_, ?_⟩
  · have hk : ∀ k : PortId, k ∈ allFour := by decide
    rw [getElem_mapFour, hports k, if_pos (hk k), ← hs3]
    rfl
  · obtain ⟨hf, hc, -⟩ := hd q
    obtain ⟨hf', hc', he⟩ := hd' q
    have hentries : qs[q].entries = [] := he (hempty q (hall q))
    have hfloor : qs[q].floor = (s.queue q).floor := by
      refine hf'.trans (hf.trans ?_)
      rw [← hs3]
      rfl
    have hceiling : qs[q].ceiling = (s.queue q).ceiling := by
      refine hc'.trans (hc.trans ?_)
      rw [← hs3]
      rfl
    rw [getElem_mapFifteen, hentries, hfloor, hceiling]
    rfl
  · rw [hflush, hreset, ← hs3]
    rfl

end Sys2Proof.Machine
end

section
namespace Sys2Proof.Machine

/-! ### The reports of the ports at a reset, taken without a destination (R178, R196) -/

/-- The entry of the changes of one port. -/
def linkEntry (n : PortId) (changes : List Byte) (number : BitVec 16) : NoticeEntry :=
  { number := number, type := .linkChange, subject := BitVec.ofNat 16 n.val, detail := .code (changes.getLastD 0)
    repeats := changes.length, awaiting := false }

/-- No entry of the notice queue is one that a change of this port would extend. -/
def State.unnoticed (s : State) (n : PortId) : Prop :=
  ∀ e ∈ s.notices.queue, e.unsentOf .linkChange (BitVec.ofNat 16 n.val) = false

theorem linkEntry_unsentOf (n k : PortId) (changes : List Byte) (number : BitVec 16) :
    (linkEntry n changes number).unsentOf .linkChange (BitVec.ofNat 16 k.val) = decide (n = k) := by
  have hsubject : ∀ n k : PortId, BitVec.ofNat 16 n.val = BitVec.ofNat 16 k.val ↔ n = k := by decide
  simp [NoticeEntry.unsentOf, linkEntry, hsubject]

/-- The state after the changes of a port have been noticed. -/
def State.noticed (s : State) (n : PortId) (changes : List Byte) : State :=
  { s with
    notices := { s.notices with
      queue := s.notices.queue ++ [linkEntry n changes s.notices.nextNumber]
      nextNumber := s.notices.nextNumber + 1 }
    noticeCtr := { s.noticeCtr with
      reportsTaken := s.noticeCtr.reportsTaken + BitVec.ofNat 32 changes.length
      reportsCoalesced := s.noticeCtr.reportsCoalesced + (BitVec.ofNat 32 changes.length - 1)
      entriesCreated := s.noticeCtr.entriesCreated + 1 } }

section
variable {s : State} {n : PortId}

theorem State.takeReport_first (hd : s.agent.settings.destination = none) (hnew : s.unnoticed n)
    (hroom : s.notices.queue.length < 16) (x : Byte) : s.takeReport (linkReport n x) = s.noticed n [x] := by
  have hany : ¬s.notices.queue.any (·.unsentOf .linkChange (BitVec.ofNat 16 n.val)) = true := fun h => by
    obtain ⟨e, he, hm⟩ := List.any_eq_true.1 h
    rw [hnew e he] at hm
    exact Bool.false_ne_true hm
  have hsend {t : State} (ht : t.agent.settings.destination = none) : t.sendOldest = t := by
    unfold State.sendOldest
    rw [ht]
  have happend : s.takeReport (linkReport n x) = _ := (if_neg hany).trans ((if_pos hroom).trans (hsend hd))
  rw [happend]
  simp [State.appendEntry, State.noticed, linkEntry, linkReport, State.countNotice]

theorem State.takeReport_again (hnew : s.unnoticed n) (x y : Byte) :
    (s.noticed n [x]).takeReport (linkReport n y) = s.noticed n [x, y] := by
  have hany : (s.noticed n [x]).notices.queue.any (·.unsentOf .linkChange (BitVec.ofNat 16 n.val)) = true :=
    List.any_eq_true.2 ⟨_, List.mem_append_right _ List.mem_cons_self, by simp [linkEntry_unsentOf]⟩
  have hextend : (s.noticed n [x]).takeReport (linkReport n y) = _ := if_pos hany
  have hkept : s.notices.queue.map (fun e => if e.unsentOf .linkChange (BitVec.ofNat 16 n.val) = true then
      { e with detail := .code y, repeats := satRepeat e.repeats } else e) = s.notices.queue :=
    (List.map_congr_left fun e he => if_neg (by simp [hnew e he])).trans (List.map_id _)
  have hown : (linkEntry n [x] s.notices.nextNumber).unsentOf .linkChange (BitVec.ofNat 16 n.val) = true := by
    simp [linkEntry_unsentOf]
  have hmerged : satRepeat 1 = 2 := rfl
  have htaken : s.noticeCtr.reportsTaken + 1#32 + 1#32 = s.noticeCtr.reportsTaken + 2#32 := BitVec.add_assoc _ _ _
  rw [hextend]
  simpa [State.countNotice, linkReport, State.noticed, linkEntry, hmerged] using ⟨⟨hkept, hown⟩, htaken⟩

/-- The reports of one port are noticed as one entry. -/
theorem State.takeReports_of_port (hd : s.agent.settings.destination = none) (hnew : s.unnoticed n)
    (hroom : s.notices.queue.length < 16) {changes : List Byte} (hlen : changes.length ≤ 2) :
    (changes.map (linkReport n)).foldl State.takeReport s = if changes = [] then s else s.noticed n changes := by
  match changes, hlen with
  | [], _ => rfl
  | [x], _ => exact s.takeReport_first hd hnew hroom x
  | [x, y], _ =>
    rw [List.map_cons, List.foldl_cons, State.takeReport_first hd hnew hroom]
    exact State.takeReport_again hnew x y

end

theorem add_ofNat_add_ofNat {w : Nat} (c : BitVec w) (j k : Nat) :
    c + BitVec.ofNat w j + BitVec.ofNat w k = c + BitVec.ofNat w (j + k) := by
  rw [BitVec.ofNat_add, BitVec.add_assoc]

theorem add_one_add_ofNat {w : Nat} (c : BitVec w) (k : Nat) : c + 1 + BitVec.ofNat w k = c + BitVec.ofNat w (k + 1) := by
  rw [Nat.add_comm k 1]
  exact add_ofNat_add_ofNat c 1 k

/-- The reports coalesced are those taken less the entries created, port by port. -/
theorem add_coalesced {w : Nat} (c : BitVec w) (i j k : Nat) :
    c + (BitVec.ofNat w i - 1) + (BitVec.ofNat w j - BitVec.ofNat w k) =
      c + (BitVec.ofNat w (i + j) - BitVec.ofNat w (k + 1)) := by
  have hone : BitVec.ofNat w 1 = 1 := rfl
  rw [BitVec.ofNat_add, BitVec.ofNat_add, hone]
  ring

/-- The reports of several ports, taken in the ports' order: one entry for each port that has changes. -/
theorem foldl_linkReports {ns : List PortId} (hns : ns.Nodup) (changes : PortId → List Byte)
    (hlen : ∀ n, (changes n).length ≤ 2) {s : State} (hd : s.agent.settings.destination = none)
    (hnew : ∀ n ∈ ns, s.unnoticed n) (hroom : s.notices.queue.length + ns.length ≤ 16) :
    let reports := ns.flatMap fun n => (changes n).map (linkReport n)
    let moved := ns.filter fun n => decide (changes n ≠ [])
    reports.foldl State.takeReport s = { s with
      notices := { s.notices with
        queue := s.notices.queue ++
          moved.zipIdx.map fun x => linkEntry x.1 (changes x.1) (s.notices.nextNumber + BitVec.ofNat 16 x.2)
        nextNumber := s.notices.nextNumber + BitVec.ofNat 16 moved.length }
      noticeCtr := { s.noticeCtr with
        reportsTaken := s.noticeCtr.reportsTaken + BitVec.ofNat 32 reports.length
        reportsCoalesced :=
          s.noticeCtr.reportsCoalesced + (BitVec.ofNat 32 reports.length - BitVec.ofNat 32 moved.length)
        entriesCreated := s.noticeCtr.entriesCreated + BitVec.ofNat 32 moved.length } } := by
  induction ns generalizing s with
  | nil => simp
  | cons n rest ih =>
    obtain ⟨hn, hrest⟩ := List.nodup_cons.1 hns
    rw [List.forall_mem_cons] at hnew
    obtain ⟨hnew, hothers⟩ := hnew
    rw [List.length_cons] at hroom
    intro reports moved
    have hfirst := State.takeReports_of_port hd hnew (by omega) (hlen n)
    have hfold : reports.foldl State.takeReport s = (rest.flatMap fun n => (changes n).map (linkReport n)).foldl
        State.takeReport (if changes n = [] then s else s.noticed n (changes n)) := by
      rw [← hfirst, ← List.foldl_append]
      rfl
    rw [hfold]
    by_cases hc : changes n = []
    · have hm : moved = rest.filter fun n => decide (changes n ≠ []) := List.filter_cons_of_neg (by simp [hc])
      have hr : reports = rest.flatMap fun n => (changes n).map (linkReport n) := by simp [reports, hc]
      rw [if_pos hc, hm, hr]
      exact ih hrest hd hothers (by omega)
    · have hm : moved = n :: rest.filter fun n => decide (changes n ≠ []) := List.filter_cons_of_pos (by simp [hc])
      have hr : reports.length = (changes n).length + (rest.flatMap fun n => (changes n).map (linkReport n)).length := by
        simp [reports]
      have hothers' : ∀ k ∈ rest, (s.noticed n (changes n)).unnoticed k := fun k hk e he => by
        rcases List.mem_append.1 he with he | he
        · exact hothers k hk e he
        · rw [List.mem_singleton.1 he, linkEntry_unsentOf]
          exact decide_eq_false fun h : n = k => hn (h ▸ hk)
      rw [if_neg hc, ih hrest (s := s.noticed n (changes n)) hd hothers' (by simp [State.noticed]; omega), hm, hr]
      have hzip (l : List PortId) : l.zipIdx 1 = l.zipIdx.map fun x => (x.1, x.2 + 1) := List.zipIdx_succ
      have hzero : s.notices.nextNumber + BitVec.ofNat 16 0 = s.notices.nextNumber := BitVec.add_zero _
      simp only [State.noticed, add_one_add_ofNat, add_ofNat_add_ofNat, add_coalesced, List.zipIdx_cons, hzip, hzero, List.map_cons,
        List.map_map, List.append_assoc, List.singleton_append, List.length_cons, Nat.zero_add]
      rfl

end Sys2Proof.Machine
end

section
namespace Sys2Proof.Machine

/-! ### The origins' past at a reset (log entry 28) -/

theorem newerSeq_eq (x last : BitVec 16) :
    newerSeq x last = decide (1 ≤ (x - last).toNat ∧ (x - last).toNat ≤ 32767) := by
  rw [newerSeq, Bool.decide_and]

/-- The past of the requester: its NODE-RESET alone stands since the reset, and every other request is to come anew. -/
theorem OriginPast.atReset_noted {p : OriginPast} {o : Origin} (h : p.origin = o) (seq : BitVec 16) :
    let latest := if newerSeq seq p.latest then seq else p.latest
    (p.noted seq false).atReset o seq = { p with
      latest := latest
      since := [seq]
      anew := (p.since ++ p.anew).filter fun x => decide (x ≠ seq ∧ newerSeq x latest = false)
      reset := some seq } := by
  have hsince (l : List (BitVec 16)) (latest : BitVec 16) : (l.filter fun x => decide (x ≠ seq) && !newerSeq x latest).filter
      (fun x => decide (x = seq)) = [] := by
    rw [List.filter_filter, List.filter_eq_nil_iff]
    intro x _
    by_cases hx : x = seq <;> simp [hx]
  have hanew (l : List (BitVec 16)) (latest : BitVec 16) : (l.filter fun x => decide (x ≠ seq) && !newerSeq x latest).filter
      (fun x => !decide (x = seq)) = l.filter fun x => decide (x ≠ seq ∧ newerSeq x latest = false) := by
    rw [List.filter_filter]
    refine List.filter_congr fun x _ => ?_
    by_cases hx : x = seq <;> cases hn : newerSeq x latest <;> simp [hx]
  simp only [OriginPast.noted, OriginPast.atReset, h, decide_true, Bool.true_and, Bool.false_eq_true, if_false, if_true,
    List.nil_append, List.filter_append, hsince, hanew, List.append_nil]
  simp

theorem OriginPast.atReset_other {p : OriginPast} {o : Origin} (h : p.origin ≠ o) (seq : BitVec 16) :
    p.atReset o seq = { p with since := [], anew := p.since ++ p.anew, reset := none } := by
  simp [OriginPast.atReset, h]

theorem State.entered_past (s : State) (m : HandCell) (rest : List HandCell) : (s.entered m rest).agent.past =
    (s.notePast m.origin m.cell.reqSeq (s.staysAnew m)).agent.past := by
  unfold State.entered State.enterOrigin
  dsimp only
  split
  · rfl
  · split <;> rfl

/-- The origins' past after a NODE-RESET. -/
theorem State.past_nodeReset {s : State} {m : HandCell} (hcode : m.cell.code = 0x15) (rest : List HandCell) :
    (s.entered m rest).agent.past.map (·.atReset m.origin m.cell.reqSeq) =
      (if s.agent.past.any fun p => decide (p.origin = m.origin) then []
        else [{ origin := m.origin, latest := m.cell.reqSeq, since := [m.cell.reqSeq], anew := [],
                reset := some m.cell.reqSeq }]) ++
      s.agent.past.map fun p =>
        let latest := if newerSeq m.cell.reqSeq p.latest then m.cell.reqSeq else p.latest
        if p.origin = m.origin then
          { p with
            latest := latest
            since := [m.cell.reqSeq]
            anew := (p.since ++ p.anew).filter fun x => decide (x ≠ m.cell.reqSeq ∧ newerSeq x latest = false)
            reset := some m.cell.reqSeq }
        else { p with since := [], anew := p.since ++ p.anew, reset := none } := by
  have hanew : s.staysAnew m = false := by simp [State.staysAnew, State.commitTurnedAway, hcode]
  rw [State.entered_past, hanew, State.notePast]
  simp only [List.map_append, List.map_map]
  congr 1
  · split
    · rfl
    · simp only [List.map_cons, List.map_nil, Function.comp, if_true]
      rw [OriginPast.atReset_noted rfl]
      simp
  · refine List.map_congr_left fun p _ => ?_
    simp only [Function.comp]
    split
    · rename_i h
      exact OriginPast.atReset_noted h _
    · rename_i h
      exact OriginPast.atReset_other h _

/-! ### The response, and what follows it (R149, R194, R196) -/

theorem State.nodeResetBody_eq {s : State} {busy : Byte} (hidle : s.batch.state ≠ .applying → busy = 255)
    (hbusy : s.batch.state = .applying → ∃ b, s.bank b = .updating ∧ (∀ k, s.bank k = .updating → k = b) ∧
      busy = BitVec.ofNat 8 b.val) :
    s.nodeResetBody = [s.batch.state.code, s.batch.id, busy] ++ natBytes16 (∑ q : QueueId, (s.queue q).entries.length) ++
      [if s.batch.state = .applying then BitVec.ofNat 8 s.batch.outcomes.length else 0] := by
  rw [← usedSlots_eq_sum]
  by_cases ha : s.batch.state = .applying
  · obtain ⟨b, hb, hone, rfl⟩ := hbusy ha
    have hbank : s.bankInProgress = some b := State.bankInProgress_eq fun k => ⟨hone k, fun h => h ▸ hb⟩
    simp [State.nodeResetBody, ha, hbank]
  · simp [State.nodeResetBody, ha, hidle ha]

/-- A response that is admitted: cached, placed and counted (R147, R149). -/
theorem State.respond_admitted {s : State} {r : Request} (ha : s.admits (mgmtQueue r.origin) = true) (st : Status)
    (body : List Byte) :
    let cell := s.response r.origin r.seq r.code st body
    let x := s.queue (mgmtQueue r.origin)
    s.respond r st body = { s with
      agent := { s.agent with origins := s.agent.origins.map fun e => if e.origin = r.origin then e.answered cell else e }
      queues := s.queues.set (mgmtQueue r.origin).val
        { x with entries := x.entries ++ [{ cell := cell, source := .agent, marked := false }], admitted := x.admitted + 1 }
        (mgmtQueue r.origin).isLt
      agentCtr := { s.agentCtr with responsesQueued := s.agentCtr.responsesQueued + 1 } } := by
  intro cell x
  have hadm : (s.onEntry r.origin fun e => e.answered cell).admits (mgmtQueue r.origin) = true := ha
  unfold State.respond State.offerResponse
  dsimp only
  rw [State.claim_admitted _ hadm]
  rfl

/-- Without a holder and with the destination reached, nothing follows a request. -/
theorem State.follow_free {s : State} (hl : s.lease = .free) (hu : s.notices.unreachable = false) (leased : Bool) (o : Origin) :
    s.follow leased o = s := by
  have hrenew : s.renewFor o = s := if_neg (by rw [hl]; nofun)
  rw [State.follow_reached hu, hrenew, ite_self]

theorem State.takeReport_agent (s : State) (r : Report) : (s.takeReport r).agent = s.agent := by
  have hsend (t : State) : t.sendOldest.agent = t.agent := by
    unfold State.sendOldest
    split
    · split
      · rfl
      · exact (t.offerNotice_frame _ _).2.1
    · rfl
  unfold State.takeReport
  dsimp only
  split
  · rfl
  · split
    · exact hsend _
    · rfl

theorem foldl_takeReport_agent (rs : List Report) (s : State) : (rs.foldl State.takeReport s).agent = s.agent := by
  induction rs generalizing s with
  | nil => rfl
  | cons r rest ih => exact (ih _).trans (s.takeReport_agent r)

/-- What NODE_RESET leaves before the reports are taken: its steps, then its response (R194, R195). -/
theorem State.nodeReset_answered {s : State} (hready : s.nodeState = .ready) (r : Request)
    (hfloor : 0 < (s.queue (mgmtQueue r.origin)).floor) (leased : Bool) (body : List Byte) :
    let cell := s.response r.origin r.seq r.code .ok body
    ∃ ports qs,
      (∀ k : PortId, ports[k] = { (s.port k).resetTo with ctr := {} }) ∧
      (∀ q : QueueId, qs[q] =
        { entries := if q = mgmtQueue r.origin then [{ cell := cell, source := .agent, marked := false }] else []
          floor := (s.queue q).floor
          ceiling := (s.queue q).ceiling
          admitted := if q = mgmtQueue r.origin then 1 else 0
          refused := 0
          flushed := 0 }) ∧
      ((s.nodeReset r).respond r .ok body).follow leased r.origin = { s with
        banks := s.stopBanks.banks
        batch := s.batch.ended
        lease := .free
        notices := { Notices.reset with nextNumber := s.notices.nextNumber }
        queues := qs
        ports := ports
        handed := s.handed ++ allFour.flatMap fun n => linkReports n (s.port n).resetChanges
        rx := {}, steer := {}, sched := {}, agentCtr := { responsesQueued := 1 }, noticeCtr := {}
        agent := { s.agent with
          origins := [{ origin := r.origin, lastSeq := r.seq, resp := .cached cell, owed := none }]
          past := s.agent.past.map (·.atReset r.origin r.seq) } } := by
  intro cell
  obtain ⟨ports, qs, hports, hqs, heq⟩ := State.nodeReset_eq hready r
  generalize s.nodeReset r = u at heq
  have hqueue (q : QueueId) : u.queue q = (s.queue q).emptied := by
    rw [heq]
    exact hqs q
  have hfree : 0 < u.freeSlots := by
    have hsum : ∑ k : QueueId, (u.queue k).entries.length = 0 := Finset.sum_eq_zero fun k _ => by rw [hqueue k]; rfl
    rw [State.freeSlots_eq_sum, hsum]
    decide
  have hadmits : u.admits (mgmtQueue r.origin) = true :=
    State.admits_below_floor u hfree (by rw [hqueue]; exact hfloor)
  have hcell : u.response r.origin r.seq r.code .ok body = cell := by
    rw [heq]
    exact State.response_congr rfl rfl _ _ _ _ _
  have hanswer := State.respond_admitted hadmits .ok body
  rw [hcell, hqueue] at hanswer
  refine ⟨ports, qs.set (mgmtQueue r.origin).val
    { (s.queue (mgmtQueue r.origin)).emptied with
      entries := [{ cell := cell, source := .agent, marked := false }], admitted := 1 }
    (mgmtQueue r.origin).isLt, hports, fun q => ?_, ?_⟩
  · by_cases hq : q = mgmtQueue r.origin
    · subst hq
      simp [Queue.emptied]
    · have hne : (mgmtQueue r.origin).val ≠ q.val := fun h => hq (Fin.ext h.symm)
      simp only [Fin.getElem_fin, Vector.getElem_set_ne _ _ hne, if_neg hq]
      exact hqs q
  · rw [hanswer, State.follow_free (by rw [heq]) (by rw [heq]; rfl), heq]
    simp [OriginEntry.answered, Queue.emptied]

end Sys2Proof.Machine
end

section
namespace Sys2Proof.Machine

/-- A port at a reset with its counters cleared, by its state and its signal (R140, R195). -/
theorem Port.resetTo_cleared (p : Port) : { p.resetTo with ctr := {} } =
    if p.state = .off then { p with stallReported := false, ctr := {} }
    else if p.signal = true then { p.stopped.aligned with token := p.token + 1, ctr := {} }
    else { p.stopped with state := .down, stallReported := false, ctr := {} } := by
  have htoken : p.stopped.token = p.token := by
    unfold Port.stopped
    cases p.state <;> rfl
  unfold Port.resetTo
  split
  · rfl
  · split
    · simp [Port.aligned, htoken]
    · rfl

/-- The reports that are taken within NODE_RESET, the waiting ones first (R196). -/
theorem State.takeResetReports_eq {s : State} {waiting : List Handed} {changes : PortId → List Byte}
    (hh : s.handed = waiting ++ allFour.flatMap fun n => linkReports n (changes n)) :
    s.takeResetReports = ((waiting.filter Handed.ofReset).map Handed.report ++
        allFour.flatMap fun n => (changes n).map (linkReport n)).foldl State.takeReport
      { s with handed := waiting.filter fun h => !h.ofReset } := by
  have hof : ∀ h ∈ allFour.flatMap fun n => linkReports n (changes n), h.ofReset = true := fun h hm => by
    obtain ⟨n, -, hm⟩ := List.mem_flatMap.1 hm
    obtain ⟨x, -, rfl⟩ := List.mem_map.1 hm
    rfl
  have hkeep : (allFour.flatMap fun n => linkReports n (changes n)).filter Handed.ofReset =
      allFour.flatMap fun n => linkReports n (changes n) := List.filter_eq_self.2 hof
  have hdrop : (allFour.flatMap fun n => linkReports n (changes n)).filter (fun h => !h.ofReset) = [] :=
    List.filter_eq_nil_iff.2 fun h hm => by simp [hof h hm]
  have hreports : (allFour.flatMap fun n => linkReports n (changes n)).map Handed.report =
      allFour.flatMap fun n => (changes n).map (linkReport n) := by
    simp only [List.map_flatMap, linkReports, List.map_map]
    rfl
  rw [State.takeResetReports, hh, List.filter_append, List.filter_append, hkeep, hdrop, List.append_nil, ← hreports,
    ← List.map_append, List.foldl_map]

/-- The node as a NODE_RESET leaves it before the reports are taken, with these cells in hands, this past of the origins, and
this response (R195). -/
def State.afterReset (s : State) (m : HandCell) (hands : List HandCell) (past : List OriginPast) (ports : Vector Port 4)
    (qs : Vector Queue 15) (cell : Cell) : State :=
  { s with
    banks := s.stopBanks.banks
    queues := qs
    ports := ports
    batch := s.batch.ended
    lease := .free
    rx := {}, steer := {}, sched := {}, agentCtr := { responsesQueued := 1 }, noticeCtr := {}
    agent := { s.agent with
      hands := hands
      origins := [{ origin := m.origin, lastSeq := m.cell.reqSeq, resp := .cached cell, owed := none }]
      past := past.map (·.atReset m.origin m.cell.reqSeq) }
    notices := { Notices.reset with nextNumber := s.notices.nextNumber }
    handed := s.handed.filter fun h => !h.ofReset }

theorem SameBlocks.afterReset {s e : State} (h : SameBlocks s e) (m : HandCell) (hands : List HandCell)
    (past : List OriginPast) (ports : Vector Port 4) (qs : Vector Queue 15) (cell : Cell) :
    e.afterReset m hands past ports qs cell = s.afterReset m hands past ports qs cell := by
  rw [h]
  rfl

theorem exec_nodeReset {s : State} {m : HandCell} {rest : List HandCell} (ht : Takes s m rest 0x15) (hr : Reaches s m)
    (hb : m.request.body = []) (hfloor : 0 < (s.queue (mgmtQueue m.origin)).floor) :
    let cell := s.response m.origin m.cell.reqSeq 0x15 .ok s.nodeResetBody
    ∃ ports qs,
      (∀ k : PortId, ports[k] = { (s.port k).resetTo with ctr := {} }) ∧
      (∀ q : QueueId, qs[q] =
        { entries := if q = mgmtQueue m.origin then [{ cell := cell, source := .agent, marked := false }] else []
          floor := (s.queue q).floor
          ceiling := (s.queue q).ceiling
          admitted := if q = mgmtQueue m.origin then 1 else 0
          refused := 0
          flushed := 0 }) ∧
      exec .nodeReset s = .next (settleHands rest (((s.handed.filter Handed.ofReset).map Handed.report ++
        allFour.flatMap fun n => (s.port n).resetChanges.map (linkReport n)).foldl State.takeReport
          (s.afterReset m rest (s.entered m rest).agent.past ports qs cell))) := by
  obtain ⟨-, -, hexecute, hcode⟩ := id ht
  have hready : s.nodeState = .ready := by
    cases hn : s.nodeState with
    | ready => rfl
    | starting => exact absurd (hcode.symm.trans (State.code_of_execute_starting hexecute hn)) (by decide)
  have hsame := s.entered_sameBlocks m rest
  have hbody : (s.entered m rest).nodeResetBody = s.nodeResetBody := by rw [hsame]; rfl
  have hcell : (s.entered m rest).response m.origin m.cell.reqSeq m.cell.code .ok s.nodeResetBody =
      s.response m.origin m.cell.reqSeq 0x15 .ok s.nodeResetBody := by
    rw [hcode]
    exact State.response_congr (s.entered_address m rest) (s.entered_settings m rest) _ _ _ _ _
  obtain ⟨ports, qs, hports, hqs, heq⟩ := State.nodeReset_answered (s := s.entered m rest)
    (hsame.frame.nodeState.trans hready) m.request (by rw [State.entered_queue]; exact hfloor) (s.needsLease 0x15)
    s.nodeResetBody
  rw [show (s.entered m rest).response m.request.origin m.request.seq m.request.code .ok s.nodeResetBody = _ from hcell] at hqs heq
  simp only [State.entered_port, State.entered_queue] at hports hqs heq
  have hconcluded : ((s.entered m rest).nodeReset m.request).concluded (s.needsLease 0x15) m.request (.reset s.nodeResetBody) =
      ((s.handed.filter Handed.ofReset).map Handed.report ++
        allFour.flatMap fun n => (s.port n).resetChanges.map (linkReport n)).foldl State.takeReport
          (s.afterReset m rest (s.entered m rest).agent.past ports qs (s.response m.origin m.cell.reqSeq 0x15 .ok s.nodeResetBody)) := by
    have hhanded : (s.entered m rest).handed = s.handed := hsame.frame.handed
    rw [State.concluded, heq, hhanded, State.takeResetReports_eq rfl]
    refine congrArg (List.foldl State.takeReport · _) ?_
    refine Eq.trans ?_ (hsame.afterReset m rest _ ports qs _)
    simp only [State.afterReset, s.entered_hands m rest, hhanded]
    rfl
  have hhandler : handleNodeReset m.request (s.entered m rest) =
      ((s.entered m rest).nodeReset m.request, .reset s.nodeResetBody) := by
    rw [handleNodeReset, if_neg (not_not.2 hb), hbody]
  refine ⟨ports, qs, hports, hqs, ?_⟩
  rw [← hconcluded]
  refine congrArg _ (takeRequest_concluded ht hr rfl hhandler ?_)
  rw [hconcluded, foldl_takeReport_agent]
  rfl

/-- Settles O50: the steps of the reset by their parts, then the response, then the reports. -/
theorem nodeResetResetsTheNode : Obligations.NodeResetResetsTheNode := by
  unfold Obligations.NodeResetResetsTheNode
  intro m rest s ht hr r
  refine ⟨fun hb => ?_, fun hb hmqt hmql busy hidle hbusy => ?_⟩
  · refine serves_unchanged rfl rfl (s.needsLease_of_leased rfl) ht hr (handler := handleNodeReset) ?_
    rw [handleNodeReset, if_pos hb]
    rfl
  intro body response own ofReset changes reports
  have hown : own = mgmtQueue m.origin := by
    cases hm : m.origin <;> simp only [own, hm] <;> rfl
  have hof : ofReset = Handed.ofReset := by
    funext h
    cases hblock : h.block <;> simp only [ofReset, Handed.ofReset, hblock]
  have hbody : s.nodeResetBody = body :=
    (State.nodeResetBody_eq hidle hbusy).trans
      (congrArg (fun code : Byte => [code, s.batch.id, busy] ++ _ ++ _) (BatchState.code_eq s.batch.state))
  have hfloor : 0 < (s.queue (mgmtQueue m.origin)).floor := by
    cases m.origin
    · exact Nat.lt_of_lt_of_le (by decide) hmqt
    · exact Nat.lt_of_lt_of_le (by decide) hmql
  obtain ⟨ports, qs, hports, hqs, hexec⟩ := exec_nodeReset ht hr hb hfloor
  rw [hbody] at hqs hexec
  have hreports : reports = (s.handed.filter Handed.ofReset).map Handed.report ++
      allFour.flatMap fun n => (changes n).map (linkReport n) := by
    simp only [reports, hof]
    rfl
  have hleaves : exec .nodeReset s = .next (settleHands rest (reports.foldl State.takeReport
      (s.afterReset m rest (s.entered m rest).agent.past ports qs response))) := by
    rw [hreports]
    exact hexec
  refine ⟨s.afterReset m rest (s.entered m rest).agent.past ports qs response, fun b => s.bank_stopBanks b,
    fun q => by rw [hown]; exact hqs q, fun n => ?_, ?_, hleaves, fun hrest hdest hnone => ?_⟩
  · intro p left
    refine (hports n).trans ?_
    rw [Port.resetTo_cleared, Port.stopped]
    cases hst : (s.port n).state <;> simp only [p, left, hst] <;> rfl
  · rw [State.afterReset, State.past_nodeReset ht.2.2.2]
    simp only [newerSeq_eq, hof]
    rfl
  · intro moved taken created
    have hlen (n : PortId) : (changes n).length ≤ 2 := by
      simp only [changes]
      split <;> split <;> simp
    have hfour : allFour.Nodup := by decide
    have hroom : 0 + 4 ≤ 16 := by decide
    rw [hof] at hnone
    subst hrest
    have htaken := foldl_linkReports hfour changes hlen
      (s := s.afterReset m [] (s.entered m []).agent.past ports qs response) hdest nofun hroom
    have hlinks : reports = allFour.flatMap fun n => (changes n).map (linkReport n) := by
      rw [hreports, hnone]
      rfl
    have hcounts : (s.afterReset m [] (s.entered m []).agent.past ports qs response).noticeCtr = {} := rfl
    rw [hleaves, hlinks, htaken, hcounts]
    simp only [taken, created, hlinks, zero_add]
    rfl

end Sys2Proof.Machine
end

section
namespace Sys2Proof.Machine

/-! ## O28 and O32: claims by the admission rule, and what leaving UP does -/

/-- The admission rule, with the sums over the queues written out (R79). -/
theorem State.admits_iff (s : State) (q : QueueId) : s.admits q = true ↔
    0 < 512 - ∑ k : QueueId, (s.queue k).entries.length ∧
    ((s.queue q).entries.length < (s.queue q).floor ∨ (s.queue q).entries.length < (s.queue q).ceiling ∧
      ∑ k : QueueId, ((s.queue k).floor - (s.queue k).entries.length) <
        512 - ∑ k : QueueId, (s.queue k).entries.length) := by
  simp only [State.admits, Bool.and_eq_true, Bool.or_eq_true, decide_eq_true_eq]
  rw [State.freeSlots_eq_sum, State.reserve_eq_sum]
  rfl

/-- Settles O28: the rule decides between the two outcomes of the claim. -/
theorem claimsFollowTheAdmissionRule : Obligations.ClaimsFollowTheAdmissionRule := by
  unfold Obligations.ClaimsFollowTheAdmissionRule
  intro q c src s x free reserve admitted
  have hrule : s.admits q = true ↔ admitted := s.admits_iff q
  refine ⟨fun h => ?_, fun h => ?_⟩
  · rw [State.offer, State.claim_admitted _ (hrule.2 h)]
  · rw [State.offer, State.claim_refused _ (Bool.eq_false_iff.2 (mt hrule.1 h))]

/-! ### Leaving UP (R84, R126) -/

/-- A port that has left UP, but for the change of state (R126). -/
def Port.leftUp (p : Port) : Port :=
  { p with dropCredit := 0, addCredits := 0, silenceTimer := false, ctr := { p.ctr with upsLost := p.ctr.upsLost + 1 } }

/-- The queues of cells for the device behind a port are flushed: its drop queue, and for port 0 MQL (R84). -/
def State.flushDrops (s : State) (n : PortId) : State :=
  if n = 0 then (s.flush (dq n)).flush mql else s.flush (dq n)

/-- Leaving UP is the flushes and the change of the port. -/
theorem State.leaveUp_eq (s : State) (n : PortId) :
    s.leaveUp n = (s.flushDrops n).setPort n (s.port n).leftUp := by
  unfold State.leaveUp State.flushDrops
  dsimp only
  split
  · exact ((s.flush (dq n)).flush mql).onPort_setPort n _ _
  · exact (s.flush (dq n)).onPort_setPort n _ _

/-- The flushes change nothing but queues. -/
theorem State.flushDrops_frame (s : State) (n : PortId) : s.flushDrops n = { s with queues := (s.flushDrops n).queues } := by
  unfold State.flushDrops
  split <;> rfl

theorem State.queue_flushDrops_drop (s : State) (n : PortId) : (s.flushDrops n).queue (dq n) = (s.flush (dq n)).queue (dq n) := by
  have hne : dq n ≠ mql := fun h => by simp [dq, mql, Fin.ext_iff] at h; omega
  unfold State.flushDrops
  split
  · exact State.queue_flush_other _ hne
  · rfl

theorem State.queue_flushDrops_mql (s : State) (n : PortId) :
    (s.flushDrops n).queue mql = if n = 0 then (s.flush mql).queue mql else s.queue mql := by
  have hne : mql ≠ dq n := fun h => by simp [dq, mql, Fin.ext_iff] at h; omega
  unfold State.flushDrops
  split
  · rw [State.queue_flush_same, State.queue_flush_same, State.queue_flush_other _ hne]
  · exact State.queue_flush_other _ hne

theorem State.queue_flushDrops_other (s : State) {n : PortId} {q : QueueId} (hd : q ≠ dq n) (hm : q ≠ mql) :
    (s.flushDrops n).queue q = s.queue q := by
  unfold State.flushDrops
  split
  · rw [State.queue_flush_other _ hm, State.queue_flush_other _ hd]
  · exact State.queue_flush_other _ hd

/-- Settles O32: leaving UP flushes the queues toward the device and changes the port, and no more. -/
theorem leavingUpClearsThePort : Obligations.LeavingUpClearsThePort := by
  unfold Obligations.LeavingUpClearsThePort
  intro n s flushed
  have hflushed (q : QueueId) : (s.flush q).queue q = flushed q := s.queue_flush_same q
  rw [s.leaveUp_eq n]
  refine ⟨State.port_setPort_same _ n _, fun m hm => ?_, ?_, ?_, fun q hd hm => s.queue_flushDrops_other hd hm, ?_⟩
  · rw [State.port_setPort_other _ _ hm, s.flushDrops_frame]
    rfl
  · exact (s.queue_flushDrops_drop n).trans (hflushed _)
  · rw [← hflushed]
    exact s.queue_flushDrops_mql n
  · rw [s.flushDrops_frame]
    rfl

end Sys2Proof.Machine
end

section
namespace Sys2Proof.Machine

/-! ## O4: the laws of the queues and the ports

The laws of the buffer and of the reserve are one: each queue takes the larger of its occupancy and its floor out of the 512
slots, and the takings fit. So a queue that loses cells keeps them, and a claim keeps them by the admission rule. -/

/-! ### The laws, queue by queue and port by port -/

/-- The slots that a queue takes out of the buffer: those it owns, and those that stay reserved for it (R75, R79). -/
def Queue.share (x : Queue) : Nat := max x.entries.length x.floor

/-- The floor, the ceiling and the occupancy that the laws allow the queue of a number (R78). -/
structure Queue.Within (q : QueueId) (x : Queue) : Prop where
  floor : x.floor ≤ x.ceiling
  some : 1 ≤ x.ceiling
  most : x.ceiling ≤ 512
  occupancy : x.entries.length ≤ x.ceiling
  management : q = mqt ∨ q = mql → 2 ≤ x.floor
  adds : ∀ n, q = aq n → x.ceiling = x.floor

/-- The laws of one port: its credits (R126), and what goes with its state (R118 to R126, R133). -/
structure Port.Sound (node : NodeState) (p : Port) : Prop where
  idle : p.state ≠ .up → p.dropCredit = 0 ∧ p.addCredits = 0
  credit : p.dropCredit ≤ 255
  resend : p.resendTimer = true ↔ p.state = .aligning
  align : p.alignPending = true → p.state = .aligning
  stall : p.stallTimer = true ↔ p.state = .aligning ∧ p.stallReported = false
  silence : p.silenceTimer = true ↔ p.state = .up
  signal : p.state = .aligning ∨ p.state = .up → p.signal = true
  starting : node = .starting → p.state = .down

/-- The laws of O4: the shares of the queues fit into the buffer, each queue is within its limits, the add credits find room
on the add queues, and each port meets its laws. -/
structure QueuesStand (s : State) : Prop where
  shares : ∑ q : QueueId, (s.queue q).share ≤ 512
  within : ∀ q, (s.queue q).Within q
  room : ∀ n, (s.queue (aq n)).entries.length + (s.port n).addCredits ≤ (s.queue (aq n)).floor
  ports : ∀ n, (s.port n).Sound s.nodeState

/-- The slots owned and the reserve are the shares of the queues. -/
theorem State.shares_eq (s : State) : usedSlots s.queues + s.reserve = ∑ q : QueueId, (s.queue q).share := by
  rw [usedSlots_eq_sum, State.reserve_eq_sum, ← Finset.sum_add_distrib]
  refine Finset.sum_congr rfl fun q _ => ?_
  simp only [Queue.share]
  omega

theorem queueLaws_iff (s : State) : QueueLaws s ↔ QueuesStand s := by
  have hshares := s.shares_eq
  have hfree : s.freeSlots = 512 - usedSlots s.queues := rfl
  constructor
  · rintro ⟨hbuffer, hreserve, ⟨hq, hmqt, hmql, hadds⟩, hroom, hcredit, htimer⟩
    unfold BufferLaw ReserveLaw at *
    refine ⟨by omega, fun q => ?_, hroom, fun n => ?_⟩
    · obtain ⟨h1, h2, h3, h4⟩ := hq q
      exact ⟨h1, h2, h3, h4, by rintro (rfl | rfl) <;> assumption, by rintro n rfl; exact hadds n⟩
    · obtain ⟨hidle, hdrop⟩ := hcredit n
      obtain ⟨h1, h2, h3, h4, h5, h6⟩ := htimer n
      exact ⟨hidle, hdrop, h1, h2, h3, h4, h5, h6⟩
  · intro h
    have hfit := h.shares
    refine ⟨?_, ?_, ⟨fun q => ?_, ?_, ?_, fun n => ?_⟩, h.room, fun n => ?_, fun n => ?_⟩
    · unfold BufferLaw; omega
    · unfold ReserveLaw; omega
    · exact ⟨(h.within q).floor, (h.within q).some, (h.within q).most, (h.within q).occupancy⟩
    · exact (h.within mqt).management (.inl rfl)
    · exact (h.within mql).management (.inr rfl)
    · exact (h.within (aq n)).adds n rfl
    · exact ⟨(h.ports n).idle, (h.ports n).credit⟩
    · obtain ⟨-, -, h1, h2, h3, h4, h5, h6⟩ := h.ports n
      exact ⟨h1, h2, h3, h4, h5, h6⟩

/-- All that the laws look at. -/
def State.queueView (s : State) : NodeState × Vector Queue 15 × Vector Port 4 := (s.nodeState, s.queues, s.ports)

theorem QueuesStand.congr {s t : State} (h : QueuesStand s) (hv : t.queueView = s.queueView) : QueuesStand t := by
  simp only [State.queueView, Prod.mk.injEq] at hv
  obtain ⟨hn, hq, hp⟩ := hv
  have hqueue := State.queue_of_queues hq
  have hport := State.port_of_ports hp
  exact ⟨by simpa only [hqueue] using h.shares, by simpa only [hqueue] using h.within,
    by simpa only [hqueue, hport] using h.room, by simpa only [hport, hn] using h.ports⟩

/-! ### One queue changed -/

section
variable {s : State}

/-- A queue that changes takes its new share for its old one. -/
theorem State.shares_setQueue (s : State) (q : QueueId) (x : Queue) :
    ∑ k : QueueId, ((s.setQueue q x).queue k).share + (s.queue q).share = ∑ k : QueueId, (s.queue k).share + x.share := by
  have hrest : ∑ k ∈ Finset.univ.erase q, ((s.setQueue q x).queue k).share = ∑ k ∈ Finset.univ.erase q, (s.queue k).share :=
    Finset.sum_congr rfl fun k hk => by rw [s.queue_setQueue_other _ (Finset.ne_of_mem_erase hk)]
  rw [← Finset.sum_erase_add _ _ (Finset.mem_univ q),
    ← Finset.sum_erase_add _ (fun k => (s.queue k).share) (Finset.mem_univ q), hrest, State.queue_setQueue_same]
  omega

theorem QueuesStand.setQueue (h : QueuesStand s) {q : QueueId} {x : Queue} (hx : x.Within q)
    (hshares : ∑ k : QueueId, ((s.setQueue q x).queue k).share ≤ 512)
    (hroom : ∀ n, q = aq n → x.entries.length + (s.port n).addCredits ≤ x.floor) : QueuesStand (s.setQueue q x) where
  shares := hshares
  within k := by
    rw [s.queue_setQueue]
    split
    · subst_vars; exact hx
    · exact h.within k
  room n := by
    rw [s.queue_setQueue]
    split
    · exact hroom n (Eq.symm ‹_›)
    · exact h.room n
  ports := h.ports

/-- A queue may lose cells, be rewritten in place, and change its counters (R82 to R84). -/
theorem QueuesStand.shrink (h : QueuesStand s) {q : QueueId} {x : Queue} (hf : x.floor = (s.queue q).floor)
    (hc : x.ceiling = (s.queue q).ceiling) (he : x.entries.length ≤ (s.queue q).entries.length) :
    QueuesStand (s.setQueue q x) := by
  obtain ⟨h1, h2, h3, h4, h5, h6⟩ := h.within q
  refine h.setQueue ⟨by omega, by omega, by omega, by omega, by rwa [hf], by rwa [hf, hc]⟩ ?_ fun n hn => ?_
  · have hsum := s.shares_setQueue q x
    have hfit := h.shares
    simp only [Queue.share] at hsum hfit ⊢
    omega
  · subst hn
    have := h.room n
    omega

theorem QueuesStand.setEntries (h : QueuesStand s) {q : QueueId} {es : List Entry}
    (he : es.length ≤ (s.queue q).entries.length) : QueuesStand (s.setEntries q es) := h.shrink rfl rfl he

theorem QueuesStand.dropHead (h : QueuesStand s) (q : QueueId) : QueuesStand (s.dropHead q) :=
  h.setEntries (by simp)

theorem QueuesStand.flush (h : QueuesStand s) (q : QueueId) : QueuesStand (s.flush q) := h.shrink rfl rfl (Nat.zero_le _)

/-- A claim keeps the laws; one on an add queue needs room beside the credits of its port (R79, R81). -/
theorem QueuesStand.claim (h : QueuesStand s) {q : QueueId} (e : Entry)
    (hroom : ∀ n, q = aq n → (s.queue q).entries.length + (s.port n).addCredits < (s.queue q).floor) :
    QueuesStand (s.claim q e).1 := by
  rcases s.claim_cases q e with ⟨hadm, hc⟩ | ⟨-, hc⟩ <;> rw [hc]
  · obtain ⟨hfree, hbelow⟩ := s.admits_cases hadm
    obtain ⟨h1, h2, h3, h4, h5, h6⟩ := h.within q
    have hshares := s.shares_eq
    have hfit := h.shares
    have hslots : s.freeSlots = 512 - usedSlots s.queues := rfl
    have hocc : (s.queue q).occupancy = (s.queue q).entries.length := rfl
    refine h.setQueue ⟨h1, h2, h3, ?_, h5, h6⟩ ?_ fun n hn => ?_
    · simp only [List.length_append, List.length_singleton]
      omega
    · have hsum := s.shares_setQueue q
        { s.queue q with entries := (s.queue q).entries ++ [e], admitted := (s.queue q).admitted + 1 }
      have hnew : Queue.share { s.queue q with
          entries := (s.queue q).entries ++ [e], admitted := (s.queue q).admitted + 1 } =
          max ((s.queue q).entries.length + 1) (s.queue q).floor := by simp [Queue.share]
      have hold : (s.queue q).share = max (s.queue q).entries.length (s.queue q).floor := rfl
      rw [hnew, hold] at hsum
      omega
    · have := hroom n hn
      simp only [List.length_append, List.length_singleton]
      omega
  · exact h.shrink rfl rfl (Nat.le_refl _)

theorem QueuesStand.offer (h : QueuesStand s) {q : QueueId} (hq : ∀ n, q ≠ aq n) (c : Cell) (x : Source) :
    QueuesStand (s.offer q c x) := h.claim _ fun n hn => absurd hn (hq n)

theorem tq_ne_aq (c : ClassId) (n : PortId) : tq c ≠ aq n := fun h => not_looked_tq c (.inr ⟨n, h⟩)

theorem dq_ne_aq (m n : PortId) : dq m ≠ aq n := fun h => not_looked_dq m (.inr ⟨n, h⟩)

theorem mgmtQueue_ne_aq (o : Origin) (n : PortId) : mgmtQueue o ≠ aq n := fun h => not_looked_mgmtQueue o (.inr ⟨n, h⟩)

theorem hq_ne_aq (n : PortId) : hq ≠ aq n := fun h => by simp [hq, aq, Fin.ext_iff] at h; omega

/-! ### One port changed -/

theorem QueuesStand.setPort (h : QueuesStand s) {n : PortId} {p : Port} (hp : p.Sound s.nodeState)
    (hroom : (s.queue (aq n)).entries.length + p.addCredits ≤ (s.queue (aq n)).floor) : QueuesStand (s.setPort n p) where
  shares := h.shares
  within := h.within
  room m := by
    rw [s.port_setPort]
    split
    · subst_vars; exact hroom
    · exact h.room m
  ports m := by
    rw [s.port_setPort]
    split
    · exact hp
    · exact h.ports m

/-- A port whose add credits do not rise finds the room it had. -/
theorem QueuesStand.onPort (h : QueuesStand s) {n : PortId} {f : Port → Port} (hp : (f (s.port n)).Sound s.nodeState)
    (hc : (f (s.port n)).addCredits ≤ (s.port n).addCredits) : QueuesStand (s.onPort n f) :=
  h.setPort hp (by have := h.room n; omega)

theorem QueuesStand.countPort (h : QueuesStand s) (n : PortId) (f : PortCounters → PortCounters) :
    QueuesStand (s.countPort n f) := h.onPort { h.ports n with } (Nat.le_refl _)

theorem QueuesStand.portSend (h : QueuesStand s) (n : PortId) (c : Cell) : QueuesStand (s.portSend n c) :=
  h.onPort { h.ports n with } (Nat.le_refl _)

theorem QueuesStand.foldl {α : Type} {f : State → α → State} (hf : ∀ s a, QueuesStand s → QueuesStand (f s a)) (l : List α)
    (h : QueuesStand s) : QueuesStand (l.foldl f s) := by
  induction l generalizing s with
  | nil => exact h
  | cons a rest ih => exact ih (hf s a h)

end

/-! ### The changes of a port's state -/

/-- A port with no credit, and with every timer and ALIGN stopped: it may stand in DOWN or OFF. -/
structure Port.Still (p : Port) : Prop where
  drop : p.dropCredit = 0
  add : p.addCredits = 0
  resend : p.resendTimer = false
  align : p.alignPending = false
  stall : p.stallTimer = false
  silence : p.silenceTimer = false

section
variable {node : NodeState} {p : Port}

theorem Port.Still.sound (h : p.Still) {x : PortState} (hx : x = .down ∨ x = .off) (hn : node = .starting → x = .down) :
    Port.Sound node { p with state := x } where
  idle _ := ⟨h.drop, h.add⟩
  credit := h.drop ▸ Nat.zero_le _
  resend := by rcases hx with rfl | rfl <;> simp [h.resend]
  align := by simp [h.align]
  stall := by rcases hx with rfl | rfl <;> simp [h.stall]
  silence := by rcases hx with rfl | rfl <;> simp [h.silence]
  signal := by rcases hx with rfl | rfl <;> simp
  starting := hn

/-- Such a port may enter ALIGNING, when its signal is present and the node READY (R120). -/
theorem Port.Still.aligned (h : p.Still) (hs : p.signal = true) (hn : node ≠ .starting) : p.aligned.Sound node where
  idle _ := ⟨h.drop, h.add⟩
  credit := (Nat.le_of_eq h.drop).trans (Nat.zero_le _)
  resend := by simp [Port.aligned]
  align _ := rfl
  stall := by simp [Port.aligned]
  silence := by simp [Port.aligned, h.silence]
  signal _ := hs
  starting hstart := absurd hstart hn

/-- A port that has left its state is still (R119, R126). -/
theorem Port.Sound.stopped (h : p.Sound node) : p.stopped.Still := by
  obtain ⟨hidle, -, hresend, halign, hstall, hsilence, -, -⟩ := h
  unfold Port.stopped
  cases hst : p.state with
  | up => simp only [hst] at *; constructor <;> simp_all
  | aligning => simp only [hst] at *; constructor <;> simp_all [stopAligning]
  | down => simp only [hst] at *; constructor <;> simp_all
  | off => simp only [hst] at *; constructor <;> simp_all

theorem Port.stopped_up (hu : p.state = .up) : p.stopped = p.leftUp := by
  cases p
  cases hu
  rfl

theorem Port.stopped_aligning (ha : p.state = .aligning) : p.stopped = stopAligning p := by
  cases p
  cases ha
  rfl

theorem Port.stopped_idle (hi : p.state = .down ∨ p.state = .off) : p.stopped = p := by
  cases p
  rcases hi with hi | hi <;> cases hi <;> rfl

end

theorem State.flushDrops_setPort (s : State) (m n : PortId) (p : Port) :
    (s.setPort n p).flushDrops m = (s.flushDrops m).setPort n p := by
  unfold State.flushDrops
  split <;> rfl

section
variable {s : State} (h : QueuesStand s) (n : PortId)
include h

/-- A still port has no add credits that would need room. -/
theorem QueuesStand.setStill {p : Port} (hp : p.Sound s.nodeState) (hc : p.addCredits = 0) : QueuesStand (s.setPort n p) :=
  h.setPort hp (by have := h.room n; omega)

theorem QueuesStand.tryAlign : QueuesStand (s.tryAlign n) := by
  unfold State.tryAlign
  split
  · rename_i hc
    obtain ⟨hdown, hsignal, hready⟩ := hc
    have hstill : (s.port n).Still := Port.stopped_idle (.inl hdown) ▸ (h.ports n).stopped
    rw [s.enterAligning_eq]
    exact (h.setStill n (hstill.aligned hsignal (by simp [hready])) hstill.add).congr rfl
  · exact h

theorem QueuesStand.flushDrops : QueuesStand (s.flushDrops n) := by
  unfold State.flushDrops
  split
  · exact (h.flush _).flush _
  · exact h.flush _

/-- A port that is still once it has left its state may leave it for DOWN or, when the node is READY, for OFF. The port need
not meet its laws before: that its signal is lost may be why it leaves (R119, R137, R140). -/
theorem QueuesStand.leavePort {p : Port} (hstill : p.stopped.Still) {x : PortState} (hx : x = .down ∨ x = .off)
    (hn : s.nodeState = .starting → x = .down) : QueuesStand ((s.setPort n p).leaveFor n x) := by
  have hmoved (u : State) (hu : QueuesStand u) (hnode : u.nodeState = s.nodeState) :
      QueuesStand (u.setPort n { p.stopped with state := x }) :=
    hu.setStill n (hnode ▸ hstill.sound hx hn) hstill.add
  unfold State.leaveFor
  rw [State.port_setPort_same]
  split <;> rename_i hst
  · rw [Port.stopped_up hst] at hmoved
    rw [State.leaveUp_eq, State.port_setPort_same, s.flushDrops_setPort, State.setPort_setPort, State.movePort,
      State.onPort_setPort]
    exact (hmoved _ (h.flushDrops n) (by rw [s.flushDrops_frame])).congr rfl
  · rw [Port.stopped_aligning hst] at hmoved
    rw [State.onPort_setPort, State.movePort, State.onPort_setPort]
    exact (hmoved s h rfl).congr rfl
  all_goals
    rw [Port.stopped_idle (by simp [hst])] at hmoved
    split
    · rename_i hsame
      subst hsame
      exact hmoved s h rfl
    · rw [State.movePort, State.onPort_setPort]
      exact (hmoved s h rfl).congr rfl

theorem QueuesStand.leaveFor {x : PortState} (hx : x = .down ∨ x = .off) (hn : s.nodeState = .starting → x = .down) :
    QueuesStand (s.leaveFor n x) := by
  have hsame : s.setPort n (s.port n) = s := by simp [State.setPort, State.port]
  exact hsame ▸ h.leavePort n (h.ports n).stopped hx hn

theorem QueuesStand.onAlign : QueuesStand (s.onAlign n) := by
  unfold State.onAlign
  split
  · rename_i hup
    have hnode : (s.flushDrops n).nodeState = s.nodeState := by rw [s.flushDrops_frame]
    have hstill : (s.port n).leftUp.Still := Port.stopped_up hup ▸ (h.ports n).stopped
    have hready : s.nodeState ≠ .starting := fun hs => by simpa [hup] using (h.ports n).starting hs
    rw [s.leaveUp_eq, State.countPort, State.onPort_setPort, State.enterAligning_eq, State.setPort_setPort,
      State.port_setPort_same]
    refine QueuesStand.congr ((h.flushDrops n).setStill n (Port.Still.aligned ?_ ?_ (hnode ▸ hready)) rfl) rfl
    · exact { hstill with }
    · exact (h.ports n).signal (.inr hup)
  · rename_i hst
    refine QueuesStand.countPort (h.onPort ?_ (Nat.le_refl _)) n _
    exact { h.ports n with align := fun _ => hst }
  all_goals exact h.countPort n _

theorem QueuesStand.onAlignAck (token : Byte) : QueuesStand (s.onAlignAck n token) := by
  unfold State.onAlignAck
  split
  · rename_i hc
    obtain ⟨hst, -⟩ := hc
    have hready : s.nodeState ≠ .starting := fun hs => by simpa [hst] using (h.ports n).starting hs
    rw [State.movePort, State.onPort, State.onPort, State.setPort_setPort, State.port_setPort_same]
    refine QueuesStand.congr (h.setStill n ⟨?_, Nat.zero_le _, ?_, ?_, ?_, ?_, fun _ => ?_, fun hs => absurd hs hready⟩ rfl) rfl
    · simp
    · simp [stopAligning]
    · simp [stopAligning]
    · simp [stopAligning]
    · simp
    · exact (h.ports n).signal (.inl hst)
  · exact h.countPort n _

theorem QueuesStand.onCredit (amount : Byte) : QueuesStand (s.onCredit n amount) := by
  have hdrop {d : Nat} (hup : (s.port n).state = .up) (hd : d ≤ 255) :
      QueuesStand (s.setPort n { s.port n with dropCredit := d }) :=
    h.setPort { h.ports n with idle := fun hne => absurd hup hne, credit := hd } (h.room n)
  unfold State.onCredit
  split
  · rename_i hup
    split
    · exact h.countPort n _
    · split
      · exact (hdrop hup (Nat.le_refl _)).countPort n _
      · exact hdrop hup (Nat.le_of_not_lt ‹_›)
  · exact h.countPort n _

theorem QueuesStand.onLink (c : Cell) : QueuesStand (s.onLink n c) := by
  unfold State.onLink
  split
  · exact h.onAlign n
  · split
    · exact h.onAlignAck n _
    · split
      · exact h.onCredit n _
      · exact h.countPort n _

theorem QueuesStand.sendHead (q : QueueId) (e : Entry) : QueuesStand (s.sendHead n q e) := by
  refine QueuesStand.portSend (QueuesStand.onPort (h.dropHead q) ?_ (Nat.le_refl _)) n _
  exact { h.ports n with
    idle := fun hne => ⟨by simp [State.dropHead, State.setEntries, ((h.ports n).idle hne).1], ((h.ports n).idle hne).2⟩
    credit := Nat.le_trans (Nat.sub_le _ _) (h.ports n).credit }

/-- The grantable amount leaves room on the add queue (R81, R118). -/
theorem QueuesStand.grantCredit (hg : 0 < s.grantable n) : QueuesStand (s.grantCredit n) := by
  have hroom := h.room n
  unfold State.grantable at hg
  split at hg
  · rename_i hup
    have hamount : s.grantable n ≤ (s.queue (aq n)).floor - (s.queue (aq n)).entries.length - (s.port n).addCredits := by
      rw [State.grantable, if_pos hup]
      exact Nat.min_le_right _ _
    refine QueuesStand.portSend (h.setPort ?_ ?_) n _
    · exact { h.ports n with idle := fun hne => absurd hup hne }
    · dsimp only
      omega
  · exact absurd hg (Nat.lt_irrefl 0)

theorem QueuesStand.portOpportunity : QueuesStand (s.portOpportunity n) := by
  unfold State.portOpportunity
  dsimp only
  split
  · refine QueuesStand.portSend (h.onPort ?_ (Nat.le_refl _)) n _
    exact { h.ports n with align := nofun }
  · split
    · exact h.grantCredit n ‹_›
    · split
      · exact h.sendHead n _ _
      · split
        · exact h.sendHead n _ _
        · exact (h.countPort n _).portSend n _

end

end Sys2Proof.Machine
end

section
namespace Sys2Proof.Machine

/-- An operation that keeps the laws, made after changes to items that the laws do not look at. -/
theorem QueuesStand.after {s t u : State} (h : QueuesStand s) (k : QueuesStand t → QueuesStand u)
    (hv : t.queueView = s.queueView) : QueuesStand u := k (h.congr hv)

/-! ### The Agent and the Notice Unit claim slots of the two management queues -/

section
variable {s : State} (h : QueuesStand s)
include h

theorem QueuesStand.offerResponse (o : Origin) (c : Cell) : QueuesStand (s.offerResponse o c) := by
  have hclaim := h.claim { cell := c, source := .agent, marked := false } fun n hn => absurd hn (mgmtQueue_ne_aq o n)
  rcases s.offerResponse_cases o c with ⟨-, hc⟩ | ⟨-, hc⟩ <;> rw [hc] <;> exact hclaim.congr rfl

theorem QueuesStand.offerNotice (o : Origin) (e : NoticeEntry) : QueuesStand (s.offerNotice o e) := by
  have hclaim := h.claim { cell := s.noticeCell o e, source := .notice, marked := false }
    fun n hn => absurd hn (mgmtQueue_ne_aq o n)
  unfold State.offerNotice
  split <;> rename_i heq <;> rw [heq] at hclaim
  · exact hclaim
  · exact hclaim.congr rfl

theorem QueuesStand.resendNotice (o : Origin) (e : NoticeEntry) (k : Nat) : QueuesStand (s.resendNotice o e k) := by
  have hoffer := h.offerNotice o e
  unfold State.resendNotice
  generalize s.offerNotice o e = t at *
  exact hoffer.congr rfl

theorem QueuesStand.sendOldest : QueuesStand s.sendOldest := by
  unfold State.sendOldest
  split
  · split
    · exact h
    · have hoffer := h.offerNotice ‹_› ‹_›
      generalize s.offerNotice _ _ = t at *
      exact hoffer.congr rfl
  · exact h

theorem QueuesStand.takeReport (r : Report) : QueuesStand (s.takeReport r) := by
  unfold State.takeReport
  dsimp only
  split
  · exact h.congr rfl
  · split
    · exact h.after (·.sendOldest) rfl
    · exact h.congr rfl

theorem QueuesStand.accountLost : QueuesStand s.accountLost := by
  unfold State.accountLost
  split
  · exact h
  · split <;> exact h.congr rfl

theorem QueuesStand.takeAck (o : Origin) (number : BitVec 16) : QueuesStand (s.takeAck o number) := by
  unfold State.takeAck
  dsimp only
  split
  · split
    · exact h.after (·.accountLost.sendOldest) rfl
    · exact h.congr rfl
  · exact h.congr rfl

theorem QueuesStand.destinationSelected : QueuesStand s.destinationSelected := by
  unfold State.destinationSelected
  dsimp only
  split
  · exact h.congr rfl
  · split
    · exact h.after (·.resendNotice _ _ _) rfl
    · exact h.after (·.sendOldest) rfl

theorem QueuesStand.contact (o : Origin) : QueuesStand (s.contact o) := by
  unfold State.contact
  split
  · split
    · exact h.after (·.resendNotice _ _ _) rfl
    · exact h
  · exact h

theorem QueuesStand.takeResetReports : QueuesStand s.takeResetReports :=
  QueuesStand.foldl (fun _ _ ht => ht.takeReport _) _ (h.congr rfl)

theorem QueuesStand.respond (r : Request) (st : Status) (body : List Byte) : QueuesStand (s.respond r st body) :=
  h.after (·.offerResponse _ _) rfl

theorem QueuesStand.follow (leased : Bool) (o : Origin) : QueuesStand (s.follow leased o) := by
  unfold State.follow State.renewFor
  refine QueuesStand.contact ?_ o
  split
  · split
    · exact h.congr rfl
    · exact h
  · exact h

theorem QueuesStand.concluded (leased : Bool) (r : Request) (reply : Reply) : QueuesStand (s.concluded leased r reply) := by
  cases reply with
  | answer st body => exact (h.respond r st body).follow _ _
  | accepted => exact h.follow _ _
  | reset body => exact ((h.respond r .ok body).follow _ _).takeResetReports

theorem QueuesStand.dispose (m : HandCell) (v : Verdict) : QueuesStand (s.dispose m v) := by
  cases v with
  | starting => exact h.after (·.offerResponse _ _) rfl
  | repeatOf r => exact h.after (·.offerResponse _ _) rfl
  | _ => exact h.congr rfl

end

theorem QueuesStand.settleHands {s : State} (h : QueuesStand s) (hs : List HandCell) : QueuesStand (settleHands hs s) := by
  induction hs generalizing s with
  | nil => exact h.congr rfl
  | cons m rest ih =>
    unfold Sys2Proof.Machine.settleHands
    split
    · exact h.congr rfl
    · exact ih (h.dispose m _)

theorem QueuesStand.giveAgent {s : State} (h : QueuesStand s) (m : HandCell) : QueuesStand (s.giveAgent m) := h.settleHands _

/-- A request keeps the laws when its block does; in STARTING it is a NODE-QUERY (R142, R147). -/
theorem QueuesStand.takeRequest {mine : Byte → Bool} {handler : Request → State → State × Reply}
    (hh : ∀ r e, QueuesStand e → (e.nodeState = .starting → mine 0x01 = true) → QueuesStand (handler r e).1)
    {s : State} (h : QueuesStand s) : QueuesStand (s.takeRequest mine handler) := by
  unfold State.takeRequest
  split
  · exact h
  · rename_i m rest _
    split
    · rename_i hc
      obtain ⟨-, hv, hm⟩ := hc
      have hsame := s.entered_sameBlocks m rest
      have hentered : QueuesStand (s.entered m rest) := h.congr (by rw [hsame]; rfl)
      have hstart : (s.entered m rest).nodeState = .starting → mine 0x01 = true := by
        rw [hsame]
        exact fun hn => State.code_of_execute_starting hv hn ▸ hm
      have hhandled : QueuesStand ((s.entered m rest).handled m.cell.bodyMisfits m.request handler).1 := by
        rcases (s.entered m rest).handled_cases m.cell.bodyMisfits m.request handler with he | he <;> rw [he]
        · exact hentered
        · exact hh _ _ hentered hstart
      exact (hhandled.concluded _ _ _).settleHands _
    · exact h

/-! ### Trunk cells -/

theorem State.queueView_addCharge (s : State) (tag : Nat) (r : Content) (a : Action) :
    (s.addCharge tag r a).queueView = s.queueView := by
  unfold State.addCharge State.reportSpent
  split <;> rfl

section
variable {s : State} (h : QueuesStand s)
include h

theorem QueuesStand.sendOn (c : Cell) : QueuesStand (s.sendOn c) := by
  unfold State.sendOn
  split
  · exact h.congr rfl
  · exact h.offer (tq_ne_aq _) _ _

theorem QueuesStand.unknownTag (c : Cell) : QueuesStand (s.unknownTag c) := by
  unfold State.unknownTag
  split
  · split
    · exact h.congr rfl
    · exact h.after (·.sendOn c) rfl
  · exact h.congr rfl

theorem QueuesStand.act (c : Cell) (r : Content) (a : Action) : QueuesStand (s.act c r a) := by
  cases a with
  | pass => exact h.sendOn _
  | drop t => exact h.offer (dq_ne_aq t) _ _
  | tap t => exact (h.offer (dq_ne_aq t) _ _).sendOn _
  | sink => exact h.congr rfl

theorem QueuesStand.reportSpent (n : Nat) (c : Content) : QueuesStand (s.reportSpent n c) := by
  unfold State.reportSpent
  split <;> exact h.congr rfl

theorem QueuesStand.reportGap (n : Nat) (c : Content) (x : Byte) : QueuesStand (s.reportGap n c x) := by
  unfold State.reportGap
  split
  · split <;> exact h.congr rfl
  · exact h

theorem QueuesStand.lookup (c : Cell) : QueuesStand (s.lookup c) := by
  unfold State.lookup
  dsimp only
  split
  · split
    · exact h.unknownTag c
    iterate 3 exact h.congr rfl
    · refine QueuesStand.act (QueuesStand.reportGap (QueuesStand.reportSpent (s := s.writeContent _ _) ?_ _ _) _ _ _) _ _ _
      exact h.congr rfl
  · exact h.congr rfl

theorem QueuesStand.holdCell (c : Cell) : QueuesStand (s.holdCell c) := by
  have hclaim := h.claim { cell := c, source := .trunk, marked := false } fun n hn => absurd hn (hq_ne_aq n)
  unfold State.holdCell
  split <;> rename_i heq <;> rw [heq] at hclaim <;> exact hclaim.congr rfl

theorem QueuesStand.meetPolicy (c : Cell) : QueuesStand (s.meetPolicy c) := by
  unfold State.meetPolicy
  split
  · exact h.holdCell c
  · exact h.holdCell c
  · split
    · exact h.congr rfl
    · exact h.after (·.sendOn c) rfl
  · exact h.congr rfl

theorem QueuesStand.steerTrunk (c : Cell) : QueuesStand (s.steerTrunk c) := by
  unfold State.steerTrunk
  dsimp only
  split
  · exact h.holdCell c
  · split
    · exact h.lookup c
    · exact h.meetPolicy c
    · exact h
    · exact h

theorem QueuesStand.trunkData (c : Cell) : QueuesStand (s.trunkData c) := by
  unfold State.trunkData
  split
  · exact h.after (·.steerTrunk c) rfl
  · split
    · exact h.congr rfl
    · exact h.after (·.offer (tq_ne_aq _) _ _) rfl

theorem QueuesStand.trunkMgmt (c : Cell) : QueuesStand (s.trunkMgmt c) := by
  unfold State.trunkMgmt
  split
  · exact h.congr rfl
  · exact h.after (·.giveAgent _) rfl
  · split
    · exact h.congr rfl
    · exact h.after (·.offer (tq_ne_aq _) _ _) rfl

theorem QueuesStand.onTrunkCell (c : Cell) : QueuesStand (s.onTrunkCell c) := by
  unfold State.onTrunkCell
  split
  · exact h.congr rfl
  · exact h.trunkData c
  · exact h.trunkMgmt c
  · exact h

theorem QueuesStand.trunkArrive (bytes : List Byte) : QueuesStand (s.trunkArrive bytes) := by
  cases hw : trunkWellFormed bytes with
  | true =>
    rw [s.trunkArrive_of_wellFormed hw]
    exact h.after (·.onTrunkCell _) rfl
  | false =>
    obtain ⟨f, hf⟩ := s.trunkArrive_of_malformed hw
    rw [hf]
    exact h.congr rfl

theorem QueuesStand.sendChoice (x : Choice) : QueuesStand (s.sendChoice x) := by
  cases x with
  | management e => exact (h.dropHead _).congr rfl
  | rotation c i e => exact (h.dropHead _).congr rfl
  | idle => exact h.congr rfl

/-! ### Add cells (R32 to R36) -/

/-- A claim on an add queue, while its port has left room for the cell (R81). -/
theorem QueuesStand.offerAdd {n : PortId} (c : Cell) (marked : Bool)
    (hroom : (s.queue (aq n)).entries.length + (s.port n).addCredits < (s.queue (aq n)).floor) :
    QueuesStand (s.offerAdd n c marked).1 :=
  h.claim _ fun m hm => by
    obtain rfl := aq_injective hm
    exact hroom

theorem QueuesStand.addFails (n : PortId) (tag : Nat) (r : Record) : QueuesStand (s.addFails n tag r) := by
  unfold State.addFails
  split
  · split
    · exact h.countPort n _
    · exact h.after (·.countPort n _) rfl
  · exact h.after (·.countPort n _) rfl

section
variable {n : PortId} (hroom : (s.queue (aq n)).entries.length + (s.port n).addCredits < (s.queue (aq n)).floor)
include hroom

theorem QueuesStand.addCheck (c : Cell) : QueuesStand (s.addCheck n c) := by
  unfold State.addCheck
  dsimp only
  split
  · rename_i a _ _
    have hview := s.queueView_addCharge c.tag.toNat (s.record c.tag.toNat).content a
    have hq := State.queue_of_queues (congrArg (·.2.1) hview)
    have hp := State.port_of_ports (congrArg (·.2.2) hview)
    exact (h.congr hview).offerAdd _ _ (by rw [hq, hp]; exact hroom)
  · exact h.addFails n _ _

theorem QueuesStand.addMeetsPolicy (c : Cell) : QueuesStand (s.addMeetsPolicy n c) := by
  have hmarked := h.offerAdd c true hroom
  have hplain := h.offerAdd { c with hop := s.agent.settings.hopLimit } false hroom
  unfold State.addMeetsPolicy
  split
  · split <;> rename_i heq <;> rw [heq] at hmarked <;> exact hmarked.congr rfl
  · split <;> rename_i heq <;> rw [heq] at hmarked <;> exact hmarked.congr rfl
  · split <;> rename_i heq <;> rw [heq] at hplain <;> exact hplain.congr rfl
  · exact h.countPort n _

theorem QueuesStand.steerAdd (c : Cell) : QueuesStand (s.steerAdd n c) := by
  unfold State.steerAdd
  split
  · exact h.addCheck hroom c
  · exact h.addMeetsPolicy hroom c
  · exact h
  · exact h

end

/-- The credit that a cell spends leaves it room on its add queue (R81, R130). -/
theorem QueuesStand.onAddData (n : PortId) (c : Cell) (hup : (s.port n).state = .up) : QueuesStand (s.onAddData n c) := by
  unfold State.onAddData
  split
  · exact h.countPort n _
  · have hroom := h.room n
    refine QueuesStand.steerAdd (h.onPort ?_ (Nat.sub_le _ _)) ?_ c
    · exact { h.ports n with idle := fun hne => absurd hup hne }
    · rw [State.port_onPort_same]
      change (s.queue (aq n)).entries.length + _ < (s.queue (aq n)).floor
      dsimp only
      omega

theorem QueuesStand.onPortCell (n : PortId) (c : Cell) : QueuesStand (s.onPortCell n c) := by
  unfold State.onPortCell
  split
  · exact h.countPort n _
  · split
    · exact h.onAddData n c ‹_›
    · exact h.countPort n _
  · split
    · unfold State.onPortMgmt
      split
      · exact (h.countPort n _).giveAgent _
      · exact h.countPort n _
    · exact h.countPort n _
  · exact h.onLink n c

theorem QueuesStand.portArrive (n : PortId) (bytes : List Byte) : QueuesStand (s.portArrive n bytes) := by
  cases hw : portWellFormed bytes with
  | true =>
    rw [s.portArrive_of_wellFormed n hw]
    exact (h.countPort n _).onPortCell n _
  | false =>
    obtain ⟨f, hf⟩ := s.portArrive_of_malformed n hw
    rw [hf]
    exact (h.countPort n _).countPort n f

theorem QueuesStand.deferredCheck (n : PortId) : QueuesStand (s.deferredCheck n) := by
  by_cases hc : s.checkable n
  · obtain ⟨e, rest, hes, hm, hb⟩ := State.checkable_cases hc
    by_cases hf : (s.record e.cell.tag.toNat).good = true → addPasses (s.record e.cell.tag.toNat).content n = none
    · rw [State.deferredCheck_fails hes hm hb hf]
      refine (h.addFails n _ _).setEntries ?_
      rw [State.queue_of_queues (s.queues_addFails ..), hes]
      exact Nat.le_succ _
    · obtain ⟨hg, hp⟩ := Classical.not_imp.1 hf
      obtain ⟨a, ha⟩ := Option.ne_none_iff_exists'.1 hp
      have hview := s.queueView_addCharge e.cell.tag.toNat (s.record e.cell.tag.toNat).content a
      rw [State.deferredCheck_passes hes hm hb hg ha]
      refine QueuesStand.setEntries (h.congr hview) ?_
      rw [State.queue_of_queues (congrArg (·.2.1) hview), hes]
      exact Nat.le_refl _
  · rw [State.deferredCheck_idle hc]
    exact h

end

theorem QueuesStand.deferredChecks (fuel : Nat) (n : PortId) {s : State} (h : QueuesStand s) :
    QueuesStand (deferredChecks fuel n s) := by
  induction fuel generalizing s with
  | zero => exact h
  | succ fuel ih => exact ih (h.deferredCheck n)

theorem QueuesStand.allDeferred {s : State} (h : QueuesStand s) (order : List PortId) : QueuesStand (s.allDeferred order) :=
  QueuesStand.foldl (fun _ _ ht => ht.deferredChecks _ _) _ (QueuesStand.foldl (fun _ n ht => ht.deferredCheck n) order h)

/-! ### The edits and the end of a batch -/

section
variable (s : State)

theorem State.queueView_writeVerified (n : Nat) (c : Content) (v : Verify) :
    (s.writeVerified n c v).1.queueView = s.queueView := by
  rcases s.writeVerified_cases n c v with h | ⟨read, -, h⟩ <;> rw [h] <;> rfl

theorem State.queueView_applyDecided (p n : Nat) (decision : Content → Option Content) (v : Verify) :
    (s.applyDecided p n decision v).queueView = s.queueView := by
  unfold State.applyDecided
  dsimp only
  split
  · split
    · rfl
    · exact s.queueView_writeVerified n _ v
  · rfl

theorem queueView_clearRun (vs : List (UsableTag × Verify)) (tags : List Nat) (s : State) (failed : Option Nat) :
    (clearRun vs tags (s, failed)).1.queueView = s.queueView := by
  induction tags generalizing s failed with
  | nil => rfl
  | cons n rest ih => exact (ih _ _).trans (s.queueView_writeVerified n _ _)

theorem State.queueView_applyClearBank (p : Nat) (b : BankId) (vs : List (UsableTag × Verify)) :
    (s.applyClearBank p b vs).queueView = s.queueView := by
  have hrun := queueView_clearRun vs (bankTags b) s none
  unfold State.applyClearBank
  split <;> rename_i heq <;> rw [heq] at hrun <;> exact hrun

theorem State.queueView_discardOpen : s.discardOpen.queueView = s.queueView := by
  unfold State.discardOpen
  split <;> rfl

end

section
variable {s : State} (h : QueuesStand s)
include h

/-- The response of a commit is a claim like that of every response (R65). -/
theorem QueuesStand.finishBatch (st : Status) (applied : List BankId) (os : List Outcome) :
    QueuesStand (s.finishBatch st applied os) := by
  have hsignal {u : State} (hu : QueuesStand u) : QueuesStand u.batchEndSignal := by
    unfold State.batchEndSignal
    split <;> exact hu.congr rfl
  have hended : QueuesStand s.discardBatch := h.congr rfl
  unfold State.finishBatch
  refine hsignal ?_
  split
  · exact hended.after (·.offerResponse _ _) rfl
  · exact hended

theorem QueuesStand.tryStart : QueuesStand s.tryStart := by
  unfold State.tryStart
  split
  · unfold State.startApply
    split
    · exact h.congr rfl
    · exact h.finishBatch _ _ _
  · exact h

theorem QueuesStand.bankEnd (b : BankId) : QueuesStand (s.bankEnd b) := by
  unfold State.bankEnd
  dsimp only
  split
  · split
    · exact h.after (·.finishBatch _ _ _) rfl
    · exact h.congr rfl
  · exact h.after (·.finishBatch _ _ _) rfl

end

end Sys2Proof.Machine
end

section
namespace Sys2Proof.Machine

/-! ### The requests that set or flush queues, or move ports -/

/-- A port that a reset of the node leaves, meets its laws (R140). -/
theorem Port.Sound.resetTo {node : NodeState} {p : Port} (hp : p.Sound node) (hn : node ≠ .starting) :
    p.resetTo.Sound node := by
  have hstill := hp.stopped
  unfold Port.resetTo
  split
  · rename_i hoff
    rw [Port.stopped_idle (.inr hoff)] at hstill
    have hsound : Port.Sound node { p with state := .off, stallReported := false } :=
      Port.Still.sound (p := { p with stallReported := false }) { hstill with } (.inr rfl) fun hs => absurd hs hn
    rwa [← hoff] at hsound
  · split
    · rename_i hsignal
      exact Port.Still.aligned { hstill with } (p.stopped_signal.trans hsignal) hn
    · exact Port.Still.sound (p := { p.stopped with stallReported := false }) { hstill with } (.inl rfl) fun _ => rfl

section
variable {s : State} (h : QueuesStand s) (r : Request)
include h

/-- A queue whose new limits pass the checks of R88 keeps the laws. -/
theorem QueuesStand.setLimits {q : QueueId} {floor ceiling : Nat} (hvals : queueValuesOk q floor ceiling = true)
    (hocc : (s.queue q).entries.length ≤ ceiling)
    (hreserve : (s.setQueue q { s.queue q with floor := floor, ceiling := ceiling }).reserve ≤ s.freeSlots)
    (hadds : ∀ n, q = aq n → ceiling = floor ∧ (s.queue q).entries.length + (s.port n).addCredits ≤ floor) :
    QueuesStand (s.setQueue q { s.queue q with floor := floor, ceiling := ceiling }) := by
  obtain ⟨hlow, hhigh, hle, hmgmt⟩ := (queueValuesOk_iff q floor ceiling).1 hvals
  refine h.setQueue ⟨hle, hlow, hhigh, hocc, hmgmt, fun n hn => (hadds n hn).1⟩ ?_ fun n hn => (hadds n hn).2
  generalize ht : s.setQueue q { s.queue q with floor := floor, ceiling := ceiling } = t at hreserve ⊢
  have hused : usedSlots t.queues = usedSlots s.queues := by
    rw [usedSlots_eq_sum, usedSlots_eq_sum]
    refine Finset.sum_congr rfl fun k _ => ?_
    rw [← ht, s.queue_setQueue]
    split
    · subst_vars; rfl
    · rfl
  have hfree : s.freeSlots = 512 - usedSlots s.queues := rfl
  have hold := s.shares_eq
  have hnew := t.shares_eq
  have hfit := h.shares
  omega

theorem QueuesStand.handleQueueSet : QueuesStand (handleQueueSet r s).1 := by
  unfold Sys2Proof.Machine.handleQueueSet
  split
  · split
    · exact h
    · rename_i b f1 f0 c1 c0 _ _ q _
      dsimp only
      generalize hc : (if (addQueuePort q).isSome = true then (word16 f1 f0).toNat else (word16 c1 c0).toNat) = ceiling
      split
      · exact h
      · split
        · exact h
        · split
          · exact h
          · split
            · exact h
            · rename_i hvals hocc hreserve hadds
              refine h.setLimits (by simpa using hvals) (Nat.le_of_not_lt hocc) (Nat.le_of_not_lt hreserve) fun n hn => ?_
              have hsome : (addQueuePort q).isSome = true := by rw [hn, addQueuePort_aq]; rfl
              have hcredits : s.creditsOn q = (s.port n).addCredits := by rw [State.creditsOn, hn, addQueuePort_aq]
              rw [if_pos hsome] at hc
              rw [hcredits] at hadds
              exact ⟨hc.symm, Nat.le_of_not_lt fun hlt => hadds ⟨hsome, hlt⟩⟩
  · exact h

theorem QueuesStand.handleQueueFlush : QueuesStand (handleQueueFlush r s).1 := by
  unfold Sys2Proof.Machine.handleQueueFlush
  split
  · split
    · exact h
    · dsimp only
      split
      · exact (h.flush _).tryStart
      · exact h.flush _
  · exact h

theorem QueuesStand.disablePort (hr : s.nodeState ≠ .starting) (n : PortId) : QueuesStand (s.disablePort n) := by
  have hleft := h.leaveFor n (.inr rfl) fun hs => absurd hs hr
  exact hleft.onPort { hleft.ports n with } (Nat.le_refl _)

theorem QueuesStand.enablePort {n : PortId} (hoff : (s.port n).state = .off) : QueuesStand (s.enablePort n) := by
  have hstill : (s.port n).Still := Port.stopped_idle (.inr hoff) ▸ (h.ports n).stopped
  exact (h.setStill n (hstill.sound (.inl rfl) fun _ => rfl) hstill.add).after (·.tryAlign n) rfl

theorem QueuesStand.handlePortSet (hr : s.nodeState ≠ .starting) : QueuesStand (handlePortSet r s).1 := by
  unfold Sys2Proof.Machine.handlePortSet
  split
  · split
    · exact h
    · dsimp only
      split
      · exact h
      · dsimp only
        split
        · split
          · exact h
          · exact h.disablePort hr _
        · split
          · rename_i hoff
            exact h.enablePort (of_decide_eq_true hoff)
          · exact h
  · exact h

/-- Clearing the counters leaves what the laws look at (R159). -/
theorem QueuesStand.clearCounters : QueuesStand s.clearCounters := by
  have hqueue (q : QueueId) : s.clearCounters.queue q = { s.queue q with admitted := 0, refused := 0, flushed := 0 } :=
    getElem_mapFifteen _ s.queues q
  have hport (n : PortId) : s.clearCounters.port n = { s.port n with ctr := {} } := getElem_mapFour _ s.ports n
  refine ⟨?_, fun q => ?_, fun n => ?_, fun n => ?_⟩
  · simp only [hqueue]
    exact h.shares
  · rw [hqueue]
    exact { h.within q with }
  · rw [hqueue, hport]
    exact h.room n
  · rw [hport]
    exact { h.ports n with }

/-- A reset of the node empties the queues and keeps their limits, and each port leaves its state (R92, R140, R195). -/
theorem QueuesStand.nodeReset (hr : s.nodeState = .ready) : QueuesStand (s.nodeReset r) := by
  obtain ⟨ports, qs, hports, hqs, heq⟩ := State.nodeReset_eq hr r
  have hqueue (q : QueueId) : (s.nodeReset r).queue q = (s.queue q).emptied := by
    rw [heq]
    exact hqs q
  have hport (n : PortId) : (s.nodeReset r).port n = { (s.port n).resetTo with ctr := {} } := by
    rw [heq]
    exact hports n
  have hsound (n : PortId) : (s.port n).resetTo.Sound s.nodeState := (h.ports n).resetTo (by rw [hr]; exact nofun)
  refine ⟨?_, fun q => ?_, fun n => ?_, fun n => ?_⟩
  · refine Nat.le_trans (Finset.sum_le_sum fun q _ => ?_) h.shares
    rw [hqueue]
    simp [Queue.share, Queue.emptied]
  · rw [hqueue]
    exact { h.within q with occupancy := Nat.zero_le _ }
  · have hcredit : (s.port n).resetTo.addCredits ≤ (s.port n).addCredits := by
      unfold Port.resetTo Port.stopped
      split
      · exact Nat.le_refl _
      · split <;> cases (s.port n).state <;> simp [Port.aligned, stopAligning]
    have hroom := h.room n
    rw [hqueue, hport]
    simp only [Queue.emptied, List.length_nil]
    omega
  · rw [hport, heq]
    exact { hsound n with }

theorem QueuesStand.handleNodeReset (hr : s.nodeState ≠ .starting) : QueuesStand (handleNodeReset r s).1 := by
  unfold Sys2Proof.Machine.handleNodeReset
  split
  · exact h
  · refine h.nodeReset r ?_
    cases hn : s.nodeState with
    | starting => exact absurd hn hr
    | ready => rfl

/-! ### The requests that leave queues and ports to the batch, the lease and the settings -/

theorem QueuesStand.readLease : QueuesStand s.readLease.1 := by
  unfold State.readLease
  split
  · exact h.congr rfl
  · exact h

theorem QueuesStand.handleNodeQuery : QueuesStand (handleNodeQuery r s).1 := by
  unfold Sys2Proof.Machine.handleNodeQuery
  split
  · exact h
  · exact h.readLease

theorem QueuesStand.handleNodeSet : QueuesStand (handleNodeSet r s).1 := by
  unfold Sys2Proof.Machine.handleNodeSet
  split
  · split
    · exact h
    · dsimp only
      split
      · exact h.after (·.destinationSelected) rfl
      · exact h.congr rfl
  · exact h

theorem QueuesStand.handleCountersClear : QueuesStand (handleCountersClear r s).1 := by
  unfold Sys2Proof.Machine.handleCountersClear
  split
  · exact h
  · exact h.clearCounters

theorem QueuesStand.handleAssignAddress : QueuesStand (handleAssignAddress r s).1 := by
  unfold Sys2Proof.Machine.handleAssignAddress
  split
  · split
    · exact h
    · split
      · exact h
      · exact h.congr rfl
  · exact h

theorem QueuesStand.handleBatchOpen : QueuesStand (handleBatchOpen r s).1 := by
  unfold Sys2Proof.Machine.handleBatchOpen
  split
  · split
    · exact h
    · split
      · exact h
      · split <;> exact h.congr rfl
  · exact h

theorem QueuesStand.handleBatchEdit : QueuesStand (handleBatchEdit r s).1 := by
  unfold Sys2Proof.Machine.handleBatchEdit
  dsimp only
  split
  · exact h
  · split
    · exact h
    · split
      · exact h
      · split <;> exact h.congr rfl

theorem QueuesStand.handleBatchCommit : QueuesStand (handleBatchCommit r s).1 := by
  unfold Sys2Proof.Machine.handleBatchCommit
  split
  · split
    iterate 3 exact h
    · split
      · exact h
      · split
        · exact h
        · split
          · exact h
          · exact h.after (·.tryStart) rfl
  · exact h

theorem QueuesStand.handleBatchAbort : QueuesStand (handleBatchAbort r s).1 := by
  unfold Sys2Proof.Machine.handleBatchAbort
  split
  · split
    · exact h
    · split
      · exact h
      · exact h.congr rfl
      · exact h.finishBatch _ _ _
      · exact h.congr rfl
  · exact h

theorem QueuesStand.handleLeaseTake : QueuesStand (handleLeaseTake r s).1 := by
  unfold Sys2Proof.Machine.handleLeaseTake
  split
  · split
    · exact h
    · split
      · exact h.congr rfl
      · split
        · exact h.congr rfl
        · split
          · exact h.readLease
          · split
            · exact h
            · exact h.congr s.queueView_discardOpen
  · exact h

theorem QueuesStand.handleLeaseRenew : QueuesStand (handleLeaseRenew r s).1 := by
  unfold Sys2Proof.Machine.handleLeaseRenew
  split
  · exact h
  · split <;> exact h.congr rfl

theorem QueuesStand.handleLeaseGive : QueuesStand (handleLeaseGive r s).1 := by
  unfold Sys2Proof.Machine.handleLeaseGive
  split
  · exact h
  · split
    · exact h
    · split <;> exact h.congr rfl

/-- A request whose block answers without a change. -/
theorem QueuesStand.takeReading {mine : Byte → Bool} {handler : Request → State → State × Reply}
    (hread : ∀ r e, (handler r e).1 = e) : QueuesStand (s.takeRequest mine handler) :=
  h.takeRequest fun r e he _ => by rw [hread r e]; exact he

end

/-! ### Reset and the start-up clear -/

/-- The default limits fit into the buffer (R92). -/
theorem inReset_queuesStand (table : Table) (unitNumber : BitVec 32) (past : List OriginPast) (draws : Nat)
    (pending : List Instr) : QueuesStand (State.inReset table unitNumber past draws pending) := by
  generalize hs : State.inReset table unitNumber past draws pending = s
  have hqueue (q : QueueId) : s.queue q = defaultQueues[q] := by rw [← hs]; rfl
  have hport (n : PortId) : s.port n = .reset := by rw [← hs]; exact inReset_port table unitNumber past draws pending n
  refine ⟨?_, fun q => ?_, fun n => ?_, fun n => ?_⟩
  · simp only [hqueue]
    decide
  · rw [hqueue]
    fin_cases q <;> constructor <;> decide
  · rw [hqueue, hport]
    revert n
    decide
  · rw [hport]
    constructor <;> simp [Port.reset]

theorem QueuesStand.clearBankEnd {s : State} (h : QueuesStand s) (b : BankId) : QueuesStand (s.clearBankEnd b) := by
  unfold State.clearBankEnd
  dsimp only
  split
  · exact h.congr rfl
  · refine QueuesStand.foldl (fun _ n ht => ht.tryAlign n) allFour ⟨h.shares, h.within, h.room, fun n => ?_⟩
    exact { h.ports n with starting := nofun }

theorem execStartUpClear_queuesStand (v : Verify) {s : State} (h : QueuesStand s) :
    Leaves (execStartUpClear v s) QueuesStand := by
  unfold execStartUpClear
  dsimp only
  split
  · have hw := h.congr (s.queueView_writeVerified s.clearNext Content.cleared v)
    generalize (s.writeVerified s.clearNext Content.cleared v).1 = t at hw
    rw [leaves_next]
    split
    · exact hw.after (·.clearBankEnd _) rfl
    · exact hw.congr rfl
  · exact leaves_next.2 h

/-! ### Every command keeps the laws -/

/-- What leaving a state stops does not depend on the signal and the counters of the port. -/
theorem Port.Still.unsignalled {p : Port} (h : p.stopped.Still) {x : Bool} {c : PortCounters} :
    (Port.stopped { p with signal := x, ctr := c }).Still := by
  unfold Port.stopped at h ⊢
  cases hst : p.state <;> simp only [hst] at h ⊢ <;> exact { h with }

theorem takeServing_length {serving : BankId → Bool} {es : List Entry} {e : Entry} {rest : List Entry}
    (h : takeServing serving es = some (e, rest)) : rest.length ≤ es.length := by
  induction es generalizing rest with
  | nil => cases h
  | cons x xs ih =>
    unfold takeServing at h
    split at h
    · cases h
      exact Nat.le_succ _
    · obtain ⟨y, hy, heq⟩ := Option.map_eq_some_iff.1 h
      cases heq
      exact Nat.succ_le_succ (ih hy)

section
variable {s : State} (h : QueuesStand s)
include h

theorem execNoticeAck_queuesStand : Leaves (execNoticeAck s) QueuesStand := by
  unfold execNoticeAck
  split
  · exact leaves_next.2 h
  · split
    · exact leaves_next.2 (h.after (fun k => (k.takeAck _ _).settleHands _) rfl)
    · exact leaves_next.2 h

theorem execHoldQueueDrain_queuesStand : Leaves (execHoldQueueDrain s) QueuesStand := by
  unfold execHoldQueueDrain
  split
  · rename_i e rest _ ht
    have hset : QueuesStand (s.setEntries hq rest) := h.setEntries (takeServing_length ht)
    exact leaves_next.2 (hset.after (fun k => (k.lookup _).tryStart) rfl)
  · exact leaves_next.2 h

theorem execPortSignalPresent_queuesStand (n : PortId) : Leaves (execPortSignalPresent n s) QueuesStand := by
  unfold execPortSignalPresent
  split
  · exact leaves_next.2 h
  · refine leaves_next.2 (QueuesStand.tryAlign (h.onPort ?_ (Nat.le_refl _)) n)
    exact { h.ports n with signal := fun _ => rfl }

theorem execPortSignalLost_queuesStand (n : PortId) (begun : Bool) : Leaves (execPortSignalLost n begun s) QueuesStand := by
  unfold execPortSignalLost
  split
  · exact leaves_next.2 h
  · dsimp only
    generalize hp : ({ s.port n with
      signal := false
      ctr := { (s.port n).ctr with
        signalLosses := (s.port n).ctr.signalLosses + 1
        truncated := if (begun && s.portTakes n) = true then (s.port n).ctr.truncated + 1 else (s.port n).ctr.truncated } } :
      Port) = p
    have hleft : QueuesStand ((s.setPort n p).leaveFor n .down) :=
      h.leavePort n (hp ▸ (h.ports n).stopped.unsignalled) (.inl rfl) fun _ => rfl
    have hidle (hst : (s.port n).state = .down ∨ (s.port n).state = .off) : QueuesStand (s.setPort n p) := by
      refine h.setPort ?_ (hp ▸ h.room n)
      rw [← hp]
      exact { h.ports n with signal := by rcases hst with hst | hst <;> simp [hst] }
    rw [State.onPort, hp]
    split <;> rename_i hst <;> rw [leaves_next]
    · exact hleft
    · exact hleft
    · exact hidle (.inl hst)
    · exact hidle (.inr hst)

theorem execResendTimerExpiry_queuesStand (n : PortId) : Leaves (execResendTimerExpiry n s) QueuesStand := by
  unfold execResendTimerExpiry
  split
  · rename_i hc
    obtain ⟨-, -, hst⟩ := hc
    exact leaves_next.2 (h.onPort { h.ports n with align := fun _ => hst } (Nat.le_refl _))
  · exact leaves_next.2 h

theorem execStallTimerExpiry_queuesStand (n : PortId) : Leaves (execStallTimerExpiry n s) QueuesStand := by
  unfold execStallTimerExpiry
  split
  · have hport : QueuesStand (s.onPort n fun p =>
        { p with stallReported := true, stallTimer := false, ctr := { p.ctr with stalls := p.ctr.stalls + 1 } }) :=
      h.onPort { h.ports n with stall := by simp } (Nat.le_refl _)
    exact leaves_next.2 (hport.congr rfl)
  · exact leaves_next.2 h

theorem execSilenceTimeout_queuesStand (n : PortId) : Leaves (execSilenceTimeout n s) QueuesStand := by
  unfold execSilenceTimeout
  split
  · exact leaves_next.2 (((h.leaveFor n (.inl rfl) fun _ => rfl).countPort n _).tryAlign n)
  · exact leaves_next.2 h

theorem execAckTimerExpiry_queuesStand : Leaves (execAckTimerExpiry s) QueuesStand := by
  unfold execAckTimerExpiry
  split
  · split
    · exact leaves_next.2 (h.resendNotice _ _ _)
    · exact leaves_next.2 (h.congr rfl)
  · exact leaves_next.2 h

theorem execEventReport_queuesStand (b : Block) : Leaves (execEventReport b s) QueuesStand := by
  unfold execEventReport
  split
  · exact leaves_next.2 (h.after (·.takeReport _) rfl)
  · exact leaves_next.2 h

theorem execLeaseTimerExpiry_queuesStand : Leaves (execLeaseTimerExpiry s) QueuesStand := by
  unfold execLeaseTimerExpiry
  split
  · split
    iterate 2 exact leaves_next.2 (h.congr s.queueView_discardOpen)
    iterate 2 exact leaves_next.2 (h.congr rfl)
  · exact leaves_next.2 h

theorem execBankEnd_queuesStand : Leaves (execBankEnd s) QueuesStand := by
  unfold execBankEnd
  split
  · split
    · exact leaves_next.2 (h.bankEnd _)
    · exact leaves_next.2 h
  · exact leaves_next.2 h

end

end Sys2Proof.Machine
end

section
namespace Sys2Proof.Machine

theorem exec_queuesStand (i : Instr) {s : State} (h : QueuesStand s) : Leaves (exec i s) QueuesStand := by
  cases i with
  | hardwareReset => exact leaves_next.2 (inReset_queuesStand _ _ _ _ _)
  | hardwareResetEnd naddr lmgt =>
    simp only [exec, execHardwareResetEnd]
    split <;> exact leaves_next.2 (h.congr rfl)
  | recordDamage tag content =>
    simp only [exec, execRecordDamage]
    split <;> exact leaves_next.2 (h.congr rfl)
  | tinSignalPresent =>
    simp only [exec, execTinSignalPresent]
    split <;> exact leaves_next.2 (h.congr rfl)
  | tinSignalLost begun =>
    simp only [exec, execTinSignalLost]
    split <;> exact leaves_next.2 (h.congr rfl)
  | tinArrival bytes =>
    simp only [exec, execTinArrival]
    split
    · exact leaves_next.2 (h.trunkArrive bytes)
    · exact leaves_next.2 h
  | unknownRequest => exact leaves_next.2 (h.takeReading fun _ _ => rfl)
  | nodeQuery => exact leaves_next.2 (h.takeRequest fun r _ he _ => he.handleNodeQuery r)
  | countersRead => exact leaves_next.2 (h.takeReading handleCountersRead_fst)
  | entryRead => exact leaves_next.2 (h.takeReading handleEntryRead_fst)
  | tableScan => exact leaves_next.2 (h.takeReading handleTableScan_fst)
  | queueQuery => exact leaves_next.2 (h.takeReading handleQueueQuery_fst)
  | portQuery => exact leaves_next.2 (h.takeReading handlePortQuery_fst)
  | nodeSet => exact leaves_next.2 (h.takeRequest fun r _ he _ => he.handleNodeSet r)
  | queueSet => exact leaves_next.2 (h.takeRequest fun r _ he _ => he.handleQueueSet r)
  | queueFlush => exact leaves_next.2 (h.takeRequest fun r _ he _ => he.handleQueueFlush r)
  | portSet => exact leaves_next.2 (h.takeRequest fun r _ he hn => he.handlePortSet r fun hs => absurd (hn hs) (by decide))
  | countersClear => exact leaves_next.2 (h.takeRequest fun r _ he _ => he.handleCountersClear r)
  | nodeReset => exact leaves_next.2 (h.takeRequest fun r _ he hn => he.handleNodeReset r fun hs => absurd (hn hs) (by decide))
  | assignAddress => exact leaves_next.2 (h.takeRequest fun r _ he _ => he.handleAssignAddress r)
  | batchOpen => exact leaves_next.2 (h.takeRequest fun r _ he _ => he.handleBatchOpen r)
  | batchEdit => exact leaves_next.2 (h.takeRequest fun r _ he _ => he.handleBatchEdit r)
  | batchCommit => exact leaves_next.2 (h.takeRequest fun r _ he _ => he.handleBatchCommit r)
  | batchAbort => exact leaves_next.2 (h.takeRequest fun r _ he _ => he.handleBatchAbort r)
  | leaseTake => exact leaves_next.2 (h.takeRequest fun r _ he _ => he.handleLeaseTake r)
  | leaseRenew => exact leaves_next.2 (h.takeRequest fun r _ he _ => he.handleLeaseRenew r)
  | leaseGive => exact leaves_next.2 (h.takeRequest fun r _ he _ => he.handleLeaseGive r)
  | noticeAck => exact execNoticeAck_queuesStand h
  | applyStart =>
    simp only [exec, execApplyStart]
    split
    · exact leaves_next.2 h
    · exact leaves_next.2 h.tryStart
  | write v =>
    simp only [exec, execWrite]
    split
    · exact leaves_next.2 (h.congr (s.queueView_writeVerified _ _ v))
    · exact leaves_next.2 h
  | clear v =>
    simp only [exec, execClear]
    split
    · exact leaves_next.2 (h.congr (s.queueView_writeVerified _ _ v))
    · exact leaves_next.2 h
  | refill v =>
    simp only [exec, execRefill]
    split
    · exact leaves_next.2 (h.congr (s.queueView_applyDecided _ _ _ v))
    · exact leaves_next.2 h
  | bar v =>
    simp only [exec, execBar]
    split
    · exact leaves_next.2 (h.congr (s.queueView_applyDecided _ _ _ v))
    · exact leaves_next.2 h
  | unbar v =>
    simp only [exec, execUnbar]
    split
    · exact leaves_next.2 (h.congr (s.queueView_applyDecided _ _ _ v))
    · exact leaves_next.2 h
  | clearBank vs =>
    simp only [exec, execClearBank]
    split
    · exact leaves_next.2 (h.congr (s.queueView_applyClearBank _ _ vs))
    · exact leaves_next.2 h
  | bankEnd => exact execBankEnd_queuesStand h
  | startUpClear v => exact execStartUpClear_queuesStand v h
  | toutOpportunity order =>
    simp only [exec, execToutOpportunity]
    split
    · exact leaves_next.2 h
    · exact leaves_next.2 ((h.allDeferred order).sendChoice _)
  | holdQueueDrain => exact execHoldQueueDrain_queuesStand h
  | portSignalPresent n => exact execPortSignalPresent_queuesStand h n
  | portSignalLost n begun => exact execPortSignalLost_queuesStand h n begun
  | portArrival n bytes =>
    simp only [exec, execPortArrival]
    split
    · exact leaves_next.2 (h.portArrive n bytes)
    · exact leaves_next.2 h
  | align n =>
    simp only [exec, execAlign]
    split
    · exact leaves_next.2 ((h.countPort n _).onAlign n)
    · exact leaves_next.2 h
  | alignAck n token =>
    simp only [exec, execAlignAck]
    split
    · exact leaves_next.2 ((h.countPort n _).onAlignAck n token)
    · exact leaves_next.2 h
  | credit n amount =>
    simp only [exec, execCredit]
    split
    · exact leaves_next.2 ((h.countPort n _).onCredit n amount)
    · exact leaves_next.2 h
  | portOpportunity n =>
    simp only [exec, execPortOpportunity]
    split
    · exact leaves_next.2 h
    · exact leaves_next.2 (h.portOpportunity n)
  | resendTimerExpiry n => exact execResendTimerExpiry_queuesStand h n
  | stallTimerExpiry n => exact execStallTimerExpiry_queuesStand h n
  | silenceTimeout n => exact execSilenceTimeout_queuesStand h n
  | ackTimerExpiry => exact execAckTimerExpiry_queuesStand h
  | leaseTimerExpiry => exact execLeaseTimerExpiry_queuesStand h
  | eventReport b => exact execEventReport_queuesStand h b

/-- Settles O4: the claims are the only operations that take slots, and the changes of a port's state the only ones that touch
what goes with it; each of them keeps the laws, and every command is made of them. -/
theorem everyStepKeepsTheQueueLaws : Obligations.EveryStepKeepsTheQueueLaws := by
  unfold Obligations.EveryStepKeepsTheQueueLaws
  intro s t hs hstep
  exact (queueLaws_iff t).2 (step_keeps (fun i _ h => exec_queuesStand i h) (fun _ _ h => h.congr rfl)
    ((queueLaws_iff s).1 hs) hstep)

/-! ## O3: the state after reset -/

/-- Settles O3: the reset state is empty, and its default limits fit. -/
theorem resetMeetsEveryLaw : Obligations.ResetMeetsEveryLaw := by
  unfold Obligations.ResetMeetsEveryLaw
  obtain ⟨hstaging, hownership, hsettings⟩ := (ownLaws_iff State.reset).2 (inReset_ownStands _ _ _ _ _)
  have hempty (q : QueueId) : (State.reset.queue q).entries = [] := (inReset_queue_empty _ _ _ _ _ q).1
  have hrecords : RecordsStand State.reset := by
    refine ⟨reset_table_wf, fun q _ e he => ?_, fun n _ => trivial⟩
    rw [hempty] at he
    cases he
  refine ⟨(queueLaws_iff _).2 (inReset_queuesStand _ _ _ _ _), hstaging, hownership, hsettings,
    (bankLaws_iff _).2 (inReset_banksStand _ _ _ _ _), (recordLaws_iff _).2 hrecords, ⟨?_, ?_⟩, rfl, rfl⟩
  · exact ⟨Nat.zero_le _, nofun, List.nodup_nil, nofun, Nat.zero_le _, Nat.zero_le _⟩
  · have hnone : State.reset.agent.settings.destination = none := rfl
    have hquiet : State.reset.notices.unreachable = false ∧ State.reset.notices.ackTimer = none := ⟨rfl, rfl⟩
    simp [DeliveryLaw, hnone, hquiet]

end Sys2Proof.Machine
end


section
namespace Sys2Proof.Machine

/-! ## O45: COUNTERS_READ, QUEUE_QUERY and PORT_QUERY -/

/-! ### The counters (R157) -/

/-- A request that is entered is already counted as executed (R142, R144, R158). -/
theorem State.entered_agentCtr (s : State) (m : HandCell) (rest : List HandCell) :
    (s.entered m rest).agentCtr =
      { s.agentCtr with
        requestsConsumed := s.agentCtr.requestsConsumed + 1
        executed := s.agentCtr.executed + 1
        entriesReplaced :=
          if s.entryOf m.origin = none ∧ 8 ≤ s.agent.origins.length then s.agentCtr.entriesReplaced + 1
          else s.agentCtr.entriesReplaced } := by
  have hentry : ((s.setHands rest).consume.notePast m.origin m.cell.reqSeq (s.staysAnew m)).entryOf m.origin =
      s.entryOf m.origin := rfl
  have hlength : ((s.setHands rest).consume.notePast m.origin m.cell.reqSeq (s.staysAnew m)).agent.origins.length =
      s.agent.origins.length := rfl
  unfold State.entered State.enterOrigin
  rw [hentry, hlength]
  cases s.entryOf m.origin with
  | some e => simp only [reduceCtorEq, false_and, if_false]; rfl
  | none =>
    by_cases hroom : s.agent.origins.length < 8
    · simp only [hroom, if_true, Nat.not_le.2 hroom, and_false, if_false]; rfl
    · simp only [hroom, if_false, Nat.not_lt.1 hroom, and_self, if_true]; rfl

/-- The counters of a group that has a number (R157). -/
def State.countersOf (s : State) (k : Nat) : List Counter :=
  if k = 0 then s.rx.list ++ s.steer.list
  else if k = 1 then s.sched.list
  else if k = 2 then s.agentCtr.list
  else if k = 3 then s.noticeCtr.list
  else (s.port (Fin.ofNat 4 (k - 4))).ctr.list

theorem State.counterGroup_eq (s : State) (k : Nat) : s.counterGroup k = if k ≤ 7 then some (s.countersOf k) else none := by
  unfold State.counterGroup State.countersOf
  by_cases hk : k ≤ 7
  · rw [if_pos hk, if_pos hk]
    split_ifs <;> rfl
  · rw [if_neg hk, if_neg (by omega), if_neg (by omega), if_neg (by omega), if_neg (by omega), if_neg hk]

theorem handleCountersRead_body {r : Request} {g f : Byte} (hb : r.body = [g, f]) (s : State) :
    handleCountersRead r s =
      if g.toNat ≤ 7 ∧ f.toNat < (s.countersOf g.toNat).length then
        let page := ((s.countersOf g.toNat).drop f.toNat).take 11
        (s, .answer .ok ([g, f, BitVec.ofNat 8 (s.countersOf g.toNat).length, BitVec.ofNat 8 page.length] ++
          page.flatMap bytes32))
      else outOfRange s := by
  by_cases hg : g.toNat ≤ 7
  · simp only [handleCountersRead, hb, s.counterGroup_eq, hg, if_true, true_and]
  · simp only [handleCountersRead, hb, s.counterGroup_eq, hg, if_false, false_and]

theorem handleCountersRead_malformed {r : Request} (s : State) (h : r.body.length ≠ 2) :
    handleCountersRead r s = malformed s := by
  unfold handleCountersRead
  split
  · rename_i hb
    simp [hb] at h
  · rfl

/-! ### The answers of QUEUE_QUERY and PORT_QUERY, written out (R87, R138) -/

theorem handleQueueQuery_malformed {r : Request} (s : State) (h : r.body.length ≠ 1) :
    handleQueueQuery r s = malformed s := by
  unfold handleQueueQuery
  split
  · rename_i hb
    simp [hb] at h
  · rfl

theorem handlePortQuery_malformed {r : Request} (s : State) (h : r.body.length ≠ 1) :
    handlePortQuery r s = malformed s := by
  unfold handlePortQuery
  split
  · rename_i hb
    simp [hb] at h
  · rfl

theorem headBytes_cons (e : Entry) (es : List Entry) :
    headBytes (e :: es) =
      ((if e.marked = true then 0xC0#8 else 0x80#8) ||| e.source.code) :: bytes16 (e.cell.tag.setWidth 16) := by
  rw [headBytes]
  cases e.marked <;> rfl

theorem portOfByte_out {b : Byte} (h : 3 < b.toNat) : portOfByte b = none := dif_neg (by omega)

theorem portOfByte_eq {b : Byte} {n : PortId} (h : n.val = b.toNat) : portOfByte b = some n := by
  have hlt : b.toNat < 4 := h ▸ n.isLt
  rw [portOfByte, dif_pos hlt]
  exact congrArg some (Fin.ext h.symm)

theorem State.portFlags_eq (s : State) (n : PortId) :
    s.portFlags n =
      BitVec.ofBool (s.port n).signal ++ BitVec.ofBool (s.port n).stallReported ++ BitVec.ofBool (s.port n).alignPending ++
        BitVec.ofBool (decide (n = 0 ∧ s.agent.lmgt = true)) ++ 0#4 := by
  have bits (a b c d : Bool) : (if a = true then 0x80 else 0) ||| (if b = true then 0x40 else 0) |||
      (if c = true then 0x20 else 0) ||| (if d = true then 0x10 else 0) =
      (BitVec.ofBool a ++ BitVec.ofBool b ++ BitVec.ofBool c ++ BitVec.ofBool d ++ 0#4 : Byte) := by
    revert a b c d; decide
  rw [← bits, State.portFlags]
  simp only [decide_eq_true_eq]

/-- Settles O45: each answer is that of the handler in the state with the request entered, which has all it reads but the
agent counters from before. -/
theorem countersQueuesAndPortsAreRead : Obligations.CountersQueuesAndPortsAreRead := by
  unfold Obligations.CountersQueuesAndPortsAreRead
  intro m rest s hr r group
  refine ⟨fun ht => ?_, fun ht => ?_, fun ht => ?_⟩
  · have unchanged {st : Status} {body : List Byte}
        (hh : handleCountersRead r (s.entered m rest) = (s.entered m rest, .answer st body)) :
        Serves .countersRead s false id r st body :=
      serves_unchanged rfl rfl (s.needsLease_reading rfl (by decide)) ht hr hh
    refine ⟨fun hb => unchanged (handleCountersRead_malformed _ hb), fun g f hb => ?_⟩
    have hgroup : (s.entered m rest).countersOf g.toNat = group g.toNat := by
      unfold State.countersOf
      rw [s.entered_agentCtr, s.entered_port, s.entered_sameBlocks m rest]
      rfl
    have hbody := handleCountersRead_body hb (s.entered m rest)
    rw [hgroup] at hbody
    refine ⟨fun hout => unchanged ?_, fun hg hf => unchanged ?_⟩
    · rw [hbody, if_neg (by omega)]
      rfl
    · rw [hbody, if_pos ⟨hg, hf⟩]
  · have unchanged {st : Status} {body : List Byte}
        (hh : handleQueueQuery r (s.entered m rest) = (s.entered m rest, .answer st body)) :
        Serves .queueQuery s false id r st body :=
      serves_unchanged rfl rfl (s.needsLease_reading rfl (by decide)) ht hr hh
    refine ⟨fun hb => unchanged (handleQueueQuery_malformed _ hb), fun b hb hout => unchanged ?_,
      fun b q hb hq => ?_⟩
    · simp only [handleQueueQuery, hb, queueOfByte_out hout]
      rfl
    intro x free reserve head
    have hfree : (s.entered m rest).freeSlots = free := by rw [State.freeSlots_eq_sum]; simp only [State.entered_queue]; rfl
    have hres : (s.entered m rest).reserve = reserve := by rw [State.reserve_eq_sum]; simp only [State.entered_queue]; rfl
    have hhead : headBytes x.entries = head := by
      simp only [head]
      cases x.entries with
      | nil => rfl
      | cons e es => rw [headBytes_cons]; rfl
    refine unchanged ?_
    simp only [handleQueueQuery, hb, queueOfByte_eq hq, State.entered_queue, hfree, hres]
    rw [hhead]
    rfl
  · have unchanged {st : Status} {body : List Byte}
        (hh : handlePortQuery r (s.entered m rest) = (s.entered m rest, .answer st body)) :
        Serves .portQuery s false id r st body :=
      serves_unchanged rfl rfl (s.needsLease_reading rfl (by decide)) ht hr hh
    refine ⟨fun hb => unchanged (handlePortQuery_malformed _ hb), fun b hb hout => unchanged ?_,
      fun b n hb hn => ?_⟩
    · simp only [handlePortQuery, hb, portOfByte_out hout]
      rfl
    intro p grantable
    have hgrant : (s.entered m rest).grantable n = grantable := by
      rw [State.grantable, s.entered_port, s.entered_queue]; rfl
    have hlmgt : (s.entered m rest).agent.lmgt = s.agent.lmgt := by rw [s.entered_sameBlocks m rest]
    have hcode : p.state.code.setWidth 8 = (match p.state with | .off => 0 | .down => 1 | .aligning => 2 | .up => 3 : Byte) := by
      cases p.state <;> rfl
    refine unchanged ?_
    simp only [handlePortQuery, hb, portOfByte_eq hn, State.entered_port, hgrant, State.portFlags_eq, hlmgt]
    rw [hcode]
    simp only [List.flatMap_cons, List.flatMap_nil, List.append_nil, List.append_assoc]
    rfl

end Sys2Proof.Machine
end


section
namespace Sys2Proof.Machine

/-! ## O49: PORT_SET, COUNTERS_CLEAR and ASSIGN_ADDRESS -/

/-! ### Enabling and disabling a port (R126, R127, R137) -/

/-- A port that is UP leaves UP; a port in another state has nothing that touches the queues (R126). -/
def State.leftIfUp (s : State) (n : PortId) (x : PortState) : State := if x = .up then s.leaveUp n else s

theorem SameBlocks.setPort {s t : State} (h : SameBlocks s t) (n : PortId) (p : Port) :
    SameBlocks (s.setPort n p) (t.setPort n p) := by
  rw [h]; rfl

theorem SameBlocks.withHanded {s t : State} (h : SameBlocks s t) (hs : List Handed) :
    SameBlocks { s with handed := hs } { t with handed := hs } := by
  rw [h]; rfl

theorem SameBlocks.leaveUp {s t : State} (h : SameBlocks s t) (n : PortId) : SameBlocks (s.leaveUp n) (t.leaveUp n) := by
  have hport : t.port n = s.port n := by rw [h]; rfl
  have hflush : SameBlocks (s.flushDrops n) (t.flushDrops n) := by
    unfold State.flushDrops
    split
    · exact (h.flush _).flush _
    · exact h.flush _
  rw [State.leaveUp_eq, State.leaveUp_eq, hport]
  exact hflush.setPort n _

theorem SameBlocks.leftIfUp {s t : State} (h : SameBlocks s t) (n : PortId) (x : PortState) :
    SameBlocks (s.leftIfUp n x) (t.leftIfUp n x) := by
  unfold State.leftIfUp
  split
  · exact h.leaveUp n
  · exact h

/-- Leaving UP leaves the Agent and the reports, and changes the port (R126). -/
theorem State.leaveUp_rest (s : State) (n : PortId) :
    (s.leaveUp n).agent = s.agent ∧ (s.leaveUp n).handed = s.handed ∧ (s.leaveUp n).port n = (s.port n).leftUp := by
  rw [State.leaveUp_eq, s.flushDrops_frame]
  exact ⟨rfl, rfl, State.port_setPort_same _ _ _⟩

theorem State.leftIfUp_agent (s : State) (n : PortId) (x : PortState) : (s.leftIfUp n x).agent = s.agent := by
  unfold State.leftIfUp
  split
  · exact (s.leaveUp_rest n).1
  · rfl

/-- A port that has left its state, read from the state after leaving UP (R119, R126). -/
theorem State.port_left (s : State) (n : PortId) :
    (if (s.port n).state = .aligning then stopAligning (s.port n) else (s.leftIfUp n (s.port n).state).port n) =
      (s.port n).stopped := by
  cases hst : (s.port n).state with
  | up => exact (s.leaveUp_rest n).2.2.trans (Port.stopped_up hst).symm
  | aligning => exact (Port.stopped_aligning hst).symm
  | down => exact (Port.stopped_idle (.inl hst)).symm
  | off => exact (Port.stopped_idle (.inr hst)).symm

/-- Disabling a port that is not OFF: it leaves its state, goes OFF, reports it, and stops sending (R127, R137). -/
theorem State.disablePort_eq {s : State} {n : PortId} (h : (s.port n).state ≠ .off) :
    s.disablePort n = State.setPort
      { s.leftIfUp n (s.port n).state with handed := s.handed ++ linkReports n [0] } n
      { (s.port n).stopped with state := .off, sending := none } := by
  have hmove (t : State) (p : Port) (qs : Vector Queue 15) (hs : List Handed) :
      ((t.atPort n p qs hs).movePort n .off).onPort n (fun p => { p with sending := none }) =
        t.atPort n { p with state := .off, sending := none } qs (hs ++ linkReports n [0]) := by
    rw [State.atPort_movePort, State.atPort_onPort]
    rfl
  unfold State.disablePort State.leaveFor State.leftIfUp
  cases hst : (s.port n).state with
  | off => exact absurd hst h
  | up =>
    obtain ⟨-, hhanded, hport⟩ := s.leaveUp_rest n
    dsimp only
    rw [if_pos rfl, Port.stopped_up hst]
    conv_lhs => rw [(s.leaveUp n).eq_atPort n, hport, hhanded, hmove]
    rfl
  | aligning =>
    have hon : s.onPort n stopAligning = s.atPort n (stopAligning (s.port n)) s.queues s.handed := rfl
    dsimp only
    rw [hon, hmove, Port.stopped_aligning hst]
    rfl
  | down =>
    dsimp only
    rw [if_neg (by decide), Port.stopped_idle (.inl hst)]
    conv_lhs => rw [s.eq_atPort n, hmove]
    rfl

/-- Enabling a port that is OFF on a READY node: DOWN, and on to ALIGNING when its signal is present (R120, R137). -/
theorem State.enablePort_eq {s : State} (hr : s.nodeState = .ready) (n : PortId) :
    s.enablePort n =
      if (s.port n).signal then
        State.setPort { s with handed := s.handed ++ linkReports n [1, 2] } n (s.port n).aligned
      else State.setPort { s with handed := s.handed ++ linkReports n [1] } n { s.port n with state := .down } := by
  have hdown : s.movePort n .down = s.atPort n { s.port n with state := .down } s.queues (s.handed ++ linkReports n [1]) := rfl
  have haligns : { s.port n with state := .down : Port }.aligns = (s.port n).signal := rfl
  rw [State.enablePort, hdown, s.atPort_tryAlign n _ _ _ hr, haligns, List.append_assoc]
  rfl

/-! ### The handlers of these requests, by their checks -/

theorem handlePortSet_malformed {r : Request} (s : State) (h : r.body.length ≠ 2) : handlePortSet r s = malformed s := by
  unfold handlePortSet
  split
  · rename_i hb
    simp [hb] at h
  · rfl

theorem handlePortSet_out {r : Request} {b setting : Byte} (hb : r.body = [b, setting]) (s : State)
    (h : 3 < b.toNat ∨ 1 < setting.toNat) : handlePortSet r s = outOfRange s := by
  by_cases hport : 3 < b.toNat
  · simp only [handlePortSet, hb, portOfByte_out hport]
  · have hn : portOfByte b = some ⟨b.toNat, by omega⟩ := portOfByte_eq rfl
    simp only [handlePortSet, hb, hn, h.resolve_left hport, if_true]

section
variable {r : Request} {b : Byte} {n : PortId} {s : State} (hn : n.val = b.toNat)
include hn

/-- What PORT_SET makes of a port that it disables (R137). -/
theorem handlePortSet_disable (hb : r.body = [b, 0]) :
    handlePortSet r s =
      let t := if (s.port n).state = .off then s else s.disablePort n
      (t, .answer .ok [b, (t.port n).state.code.setWidth 8]) := by
  have hok : ¬1 < (0 : Byte).toNat := by decide
  simp only [handlePortSet, hb, portOfByte_eq hn, hok, if_false, if_true, decide_eq_true_eq]

/-- What PORT_SET makes of a port that it enables (R137). -/
theorem handlePortSet_enable (hb : r.body = [b, 1]) :
    handlePortSet r s =
      let t := if (s.port n).state = .off then s.enablePort n else s
      (t, .answer .ok [b, (t.port n).state.code.setWidth 8]) := by
  have hok : ¬1 < (1 : Byte).toNat := by decide
  have hone : ¬(1 : Byte) = 0 := by decide
  simp only [handlePortSet, hb, portOfByte_eq hn, hok, hone, if_false, decide_eq_true_eq]

end

theorem handleCountersClear_malformed {r : Request} (s : State) (h : r.body ≠ []) : handleCountersClear r s = malformed s := by
  rw [handleCountersClear, if_pos h]

theorem handleAssignAddress_malformed {r : Request} (s : State) (h : r.body.length ≠ 5) :
    handleAssignAddress r s = malformed s := by
  unfold handleAssignAddress
  split
  · rename_i hb
    simp [hb] at h
  · rfl

theorem handleAssignAddress_body {r : Request} {a u3 u2 u1 u0 : Byte} (hb : r.body = [a, u3, u2, u1, u0]) (s : State) :
    handleAssignAddress r s =
      if 253 < a.toNat then outOfRange s
      else if u3 ++ u2 ++ u1 ++ u0 ≠ s.agent.unitNumber then (s, .answer .notUnnumbered [])
      else ({ s with agent := { s.agent with address := some a } }, .answer .ok [a, u3, u2, u1, u0]) := by
  have hword : word32At [a, u3, u2, u1, u0] 1 = u3 ++ u2 ++ u1 ++ u0 :=
    (BitVec.append_assoc (x₁ := u3 ++ u2) (x₂ := u1) (x₃ := u0)).symm
  simp only [handleAssignAddress, hb, hword]

/-- A request that is executed, but for a NODE-QUERY, finds the node READY (R142). -/
theorem State.ready_of_execute {s : State} {m : HandCell} (hv : s.verdict m = .execute) (hc : m.cell.code ≠ 0x01) :
    s.nodeState = .ready := by
  cases hn : s.nodeState with
  | starting => exact absurd (State.code_of_execute_starting hv hn) hc
  | ready => rfl

/-- ASSIGN-ADDRESS needs the lease on a numbered node alone (R147). -/
theorem State.needsLease_assignAddress (s : State) : s.needsLease 0x16 = s.agent.address.isSome := rfl

/-! ### The counters after a clear (R159) -/

theorem State.queue_clearCounters (s : State) (q : QueueId) :
    s.clearCounters.queue q = { s.queue q with admitted := 0, refused := 0, flushed := 0 } :=
  getElem_mapFifteen _ s.queues q

theorem State.port_clearCounters (s : State) (n : PortId) : s.clearCounters.port n = { s.port n with ctr := {} } :=
  getElem_mapFour _ s.ports n

theorem SameBlocks.clearCounters {s t : State} (h : SameBlocks s t) : SameBlocks s.clearCounters t.clearCounters := by
  rw [h]; rfl

/-- No counter has a part in the admission rule (R79). -/
theorem State.admits_clearCounters (s : State) (q : QueueId) : s.clearCounters.admits q = s.admits q := by
  rw [Bool.eq_iff_iff, State.admits_iff, State.admits_iff]
  simp only [State.queue_clearCounters]

theorem State.admits_entered (s : State) (m : HandCell) (rest : List HandCell) (q : QueueId) :
    (s.entered m rest).admits q = s.admits q := by
  rw [Bool.eq_iff_iff, State.admits_iff, State.admits_iff]
  simp only [State.entered_queue]

/-- The response to a COUNTERS_CLEAR is the first that the cleared counters count (R159). -/
theorem countersClear_leaves {s : State} {m : HandCell} (hm : s.agent.hands = [m]) (hu : s.notices.unreachable = false)
    (ha : s.admits (mgmtQueue m.origin) = true) :
    let t := s.served true State.clearCounters .ok []
    t.agentCtr = { responsesQueued := 1 } ∧ t.noticeCtr = {} ∧
      ∀ q, (t.queue q).admitted = (if q = mgmtQueue m.origin then 1 else 0) ∧ (t.queue q).refused = 0 ∧
        (t.queue q).flushed = 0 := by
  intro t
  have hadm : (s.entered m []).clearCounters.admits (mgmtQueue m.request.origin) = true := by
    rw [State.admits_clearCounters, State.admits_entered]; exact ha
  have hresponse := State.respond_admitted hadm .ok []
  generalize hv : (s.entered m []).clearCounters.respond m.request .ok [] = v at hresponse
  have hvu : v.notices.unreachable = false := by
    rw [hresponse]
    exact (congrArg Notices.unreachable (s.entered_notices m [])).trans hu
  have hfollow : v.follow true m.origin = v.renewFor m.origin := State.follow_reached hvu true m.origin
  have ht : t = (v.renewFor m.origin).setHands [] := by
    simp only [t, State.served, hm, settleHands, State.concluded, hv]
    exact congrArg (State.setHands · []) hfollow
  have hrest : t.agentCtr = v.agentCtr ∧ t.noticeCtr = v.noticeCtr ∧ ∀ q, t.queue q = v.queue q := by
    rw [ht]
    unfold State.renewFor
    split <;> exact ⟨rfl, rfl, fun _ => rfl⟩
  obtain ⟨hagent, hnotice, hqueues⟩ := hrest
  refine ⟨by rw [hagent, hresponse]; rfl, by rw [hnotice, hresponse]; rfl, fun q => ?_⟩
  have hqueue : v.queue q = if q = mgmtQueue m.origin then _ else (s.entered m []).clearCounters.queue q :=
    (congrArg (State.queue · q) hresponse).trans ((s.entered m []).clearCounters.queue_setQueue (mgmtQueue m.origin) q _)
  rw [hqueues, hqueue]
  by_cases hq : q = mgmtQueue m.origin
  · rw [if_pos hq, if_pos hq]
    simp only [State.queue_clearCounters]
    exact ⟨rfl, trivial, trivial⟩
  · rw [if_neg hq, if_neg hq, State.queue_clearCounters]
    exact ⟨rfl, rfl, rfl⟩

/-- Settles O49: a port is changed by its leaving and its entering, the counters by one clear, and the address by one write. -/
theorem portsCountersAndAddressAreSet : Obligations.PortsCountersAndAddressAreSet := by
  unfold Obligations.PortsCountersAndAddressAreSet
  intro m rest s hr r
  have hsame := s.entered_sameBlocks m rest
  refine ⟨fun ht => ?_, fun ht => ?_, fun ht => ?_⟩
  · have served {st : Status} {body : List Byte} {effect : State → State}
        (hh : handlePortSet r (s.entered m rest) = (effect (s.entered m rest), .answer st body))
        (hs : SameBlocks (effect s) (effect (s.entered m rest)))
        (hk : (effect (s.entered m rest)).agent = (s.entered m rest).agent) : Serves .portSet s true effect r st body :=
      serves_effect rfl rfl (s.needsLease_of_leased rfl) ht hr hh hs (.of_eq hk)
    refine ⟨fun hb => served (handlePortSet_malformed _ hb) hsame rfl,
      fun b setting hb => ⟨fun hout => served (handlePortSet_out hb _ hout) hsame rfl, fun n hn => ?_⟩⟩
    intro p change left quiet
    have hport : (s.entered m rest).port n = p := s.entered_port m rest n
    have hready : (s.entered m rest).nodeState = .ready := by
      obtain ⟨-, -, hexecute, hcode⟩ := ht
      rw [hsame.frame.nodeState]
      exact State.ready_of_execute hexecute (hcode ▸ by decide)
    have hquiet : quiet = p.stopped := s.port_left n
    refine ⟨?_, ?_, ?_, ?_, ?_⟩
    · rintro rfl hoff
      refine served ?_ hsame rfl
      rw [handlePortSet_disable hn hb]
      simp only [hport, hoff, if_true]
      rfl
    · rintro rfl hon
      have hdisable := State.disablePort_eq (s := s.entered m rest) (n := n) (by rw [hport]; exact hon)
      rw [hport, ← hquiet] at hdisable
      refine served ?_ ?_ (State.leftIfUp_agent _ n p.state)
      · rw [handlePortSet_disable hn hb]
        simp only [hport, hon, if_false, hdisable, State.port_setPort_same]
        rfl
      · have hhanded : (s.entered m rest).handed = s.handed := hsame.frame.handed
        simp only [hhanded]
        exact ((hsame.leftIfUp n p.state).withHanded _).setPort n _
    · rintro rfl hon
      refine served ?_ hsame rfl
      rw [handlePortSet_enable hn hb]
      simp only [hport, hon, if_false]
      rfl
    all_goals
      rintro rfl hoff hsignal
      have henable := State.enablePort_eq hready n
      rw [hport, hsignal] at henable
      refine served ?_ (by rw [hsame]; rfl) rfl
      rw [handlePortSet_enable hn hb]
      simp only [hport, hoff, if_true, henable, Bool.false_eq_true, if_false, State.port_setPort_same]
      rfl
  · have served {st : Status} {body : List Byte} {effect : State → State}
        (hh : handleCountersClear r (s.entered m rest) = (effect (s.entered m rest), .answer st body))
        (hs : SameBlocks (effect s) (effect (s.entered m rest)))
        (hk : (effect (s.entered m rest)).agent = (s.entered m rest).agent) :
        Serves .countersClear s true effect r st body :=
      serves_effect rfl rfl (s.needsLease_of_leased rfl) ht hr hh hs (.of_eq hk)
    refine ⟨fun hb => served (handleCountersClear_malformed _ hb) hsame rfl, fun hb => ?_⟩
    have hserves : Serves .countersClear s true State.clearCounters r .ok [] := by
      refine served ?_ hsame.clearCounters rfl
      rw [handleCountersClear, if_neg (not_not.2 hb)]
    refine ⟨State.clearCounters, State.port_clearCounters, State.queue_clearCounters, fun _ => rfl, hserves,
      fun hrest hu => ?_⟩
    intro own ha
    have hown : own = mgmtQueue m.origin := by
      cases hm : m.origin <;> simp only [own, hm] <;> rfl
    subst hrest
    rw [hown] at ha ⊢
    obtain ⟨-, hhands, -, -⟩ := ht
    exact ⟨_, hserves.1, countersClear_leaves hhands hu ha⟩
  · intro leased
    have served {st : Status} {body : List Byte} {effect : State → State}
        (hh : handleAssignAddress r (s.entered m rest) = (effect (s.entered m rest), .answer st body))
        (hs : SameBlocks (effect s) (effect (s.entered m rest)))
        (hk : EntriesKept (s.entered m rest) (effect (s.entered m rest))) : Serves .assignAddress s leased effect r st body :=
      serves_effect rfl rfl s.needsLease_assignAddress ht hr hh hs hk
    have hunit : (s.entered m rest).agent.unitNumber = s.agent.unitNumber := hsame.frame.unitNumber
    refine ⟨fun hb => served (handleAssignAddress_malformed _ hb) hsame (.of_eq rfl), fun a u3 u2 u1 u0 hb => ?_⟩
    have hbody := handleAssignAddress_body hb (s.entered m rest)
    rw [hunit] at hbody
    refine ⟨fun hout => ?_, fun hin hne => ?_, fun hin he => ?_⟩
    · refine served ?_ hsame (.of_eq rfl)
      rw [hbody, if_pos hout]
      rfl
    · refine served ?_ hsame (.of_eq rfl)
      rw [hbody, if_neg (Nat.not_lt.2 hin), if_pos hne]
      rfl
    · refine served ?_ ?_ ⟨rfl, id, fun _ => ⟨rfl, rfl⟩, (List.map_id _).symm⟩
      · rw [hbody, if_neg (Nat.not_lt.2 hin), if_neg (not_not.2 he)]
      · rw [hsame]; rfl

end Sys2Proof.Machine
end

section
namespace Sys2Proof.Machine

/-! ## O9: the laws of the counters

Each law says that a total is the sum of some counters. An arrival, and a cell that the Agent deals with, raises the total and
one counter of the sum alike, so what the totals are ahead of their sums stays as it is; clearing the counters makes it 0. -/

/-! ### What the laws look at -/

/-- By how much the arrivals on TIN are ahead of the thirteen counters that count them (R106). -/
@[irreducible] def RxCounters.ahead (c : RxCounters) : Counter :=
  c.arrivals - (c.framing + c.hcs + c.kind + c.length + c.tagKind + c.idlesReceived + c.dataReceived + c.bypassed +
    c.bypassExpired + c.mgmtConsumed + c.mgmtTransit + c.mgmtExpired + c.orphans)

/-- By how much the cells that the Agent has dealt with are ahead of the eight counters that count them (R158). -/
@[irreducible] def AgentCounters.ahead (c : AgentCounters) : Counter :=
  c.requestsConsumed - (c.notRequest + c.badSource + c.acksForwarded + c.startingAnswered + c.executed +
    c.repeatsAnswered + c.repeatsDropped + c.stale)

/-- All that the laws of O9 look at. -/
def State.countView (s : State) : Counter × Counter := (s.rx.ahead, s.agentCtr.ahead)

theorem countLaws_iff (s : State) : CountLaws s ↔ s.countView = (0, 0) := by
  simp only [CountLaws, ArrivalCountLaw, RequestCountLaw, State.countView, RxCounters.ahead, AgentCounters.ahead,
    Prod.mk.injEq, sub_eq_zero]

theorem CountLaws.congr {s t : State} (h : CountLaws s) (hv : t.countView = s.countView) : CountLaws t :=
  (countLaws_iff t).2 (hv.trans ((countLaws_iff s).1 h))

theorem State.countView_of_eq {s t : State} (hr : t.rx = s.rx) (ha : t.agentCtr = s.agentCtr) :
    t.countView = s.countView := by
  simp only [State.countView, hr, ha]

theorem foldl_countView {α : Type} {f : State → α → State} (h : ∀ s a, (f s a).countView = s.countView) (l : List α)
    (s : State) : (l.foldl f s).countView = s.countView := by
  induction l generalizing s with
  | nil => rfl
  | cons a rest ih => exact (ih _).trans (h s a)

/-! ### Queues, counters and records -/

@[simp] theorem State.countView_countSteer (s : State) (f : SteerCounters → SteerCounters) :
    (s.countSteer f).countView = s.countView := rfl

@[simp] theorem State.countView_onPort (s : State) (n : PortId) (f : Port → Port) :
    (s.onPort n f).countView = s.countView := rfl

@[simp] theorem State.countView_countPort (s : State) (n : PortId) (f : PortCounters → PortCounters) :
    (s.countPort n f).countView = s.countView := rfl

@[simp] theorem State.countView_flush (s : State) (q : QueueId) : (s.flush q).countView = s.countView := rfl

@[simp] theorem State.countView_setEntries (s : State) (q : QueueId) (es : List Entry) :
    (s.setEntries q es).countView = s.countView := rfl

@[simp] theorem State.countView_writeContent (s : State) (n : Nat) (c : Content) :
    (s.writeContent n c).countView = s.countView := rfl

theorem State.countView_claim (s : State) (q : QueueId) (e : Entry) : (s.claim q e).1.countView = s.countView :=
  State.countView_of_eq (s.claim_rx q e) (s.claim_agentCtr q e)

@[simp] theorem State.countView_offer (s : State) (q : QueueId) (c : Cell) (x : Source) :
    (s.offer q c x).countView = s.countView := s.countView_claim q _

@[simp] theorem State.countView_offerAdd (s : State) (n : PortId) (c : Cell) (m : Bool) :
    (s.offerAdd n c m).1.countView = s.countView := s.countView_claim _ _

theorem State.countView_writeVerified (s : State) (n : Nat) (c : Content) (v : Verify) :
    (s.writeVerified n c v).1.countView = s.countView := by
  rcases s.writeVerified_cases n c v with h | ⟨read, -, h⟩ <;> rw [h] <;> rfl

/-! ### Steering -/

@[simp] theorem State.countView_sendOn (s : State) (c : Cell) : (s.sendOn c).countView = s.countView := by
  unfold State.sendOn
  split <;> simp

@[simp] theorem State.countView_act (s : State) (c : Cell) (r : Content) (a : Action) :
    (s.act c r a).countView = s.countView := by
  cases a <;> simp [State.act]

theorem State.countView_unknownTag (s : State) (c : Cell) : (s.unknownTag c).countView = s.countView := by
  unfold State.unknownTag
  split
  · split <;> simp
  · rfl

@[simp] theorem State.countView_reportSpent (s : State) (n : Nat) (c : Content) :
    (s.reportSpent n c).countView = s.countView := by
  unfold State.reportSpent
  split <;> rfl

@[simp] theorem State.countView_reportGap (s : State) (n : Nat) (c : Content) (x : Byte) :
    (s.reportGap n c x).countView = s.countView := by
  unfold State.reportGap
  split
  · split <;> rfl
  · rfl

@[simp] theorem State.countView_lookup (s : State) (c : Cell) : (s.lookup c).countView = s.countView := by
  unfold State.lookup
  dsimp only
  split
  · split
    · exact s.countView_unknownTag c
    iterate 3 rfl
    · simp
  · rfl

theorem State.countView_holdCell (s : State) (c : Cell) : (s.holdCell c).countView = s.countView := by
  have h := s.countView_claim hq { cell := c, source := .trunk, marked := false }
  unfold State.holdCell
  split <;> rename_i hc <;> rw [hc] at h <;> exact h

@[simp] theorem State.countView_meetPolicy (s : State) (c : Cell) : (s.meetPolicy c).countView = s.countView := by
  unfold State.meetPolicy
  split
  · exact s.countView_holdCell c
  · exact s.countView_holdCell c
  · split <;> simp
  · rfl

theorem State.countView_steerTrunk (s : State) (c : Cell) : (s.steerTrunk c).countView = s.countView := by
  unfold State.steerTrunk
  dsimp only
  split
  · exact s.countView_holdCell c
  · split <;> simp

@[simp] theorem State.countView_addFails (s : State) (n : PortId) (tag : Nat) (r : Record) :
    (s.addFails n tag r).countView = s.countView := by
  unfold State.addFails
  split
  · split <;> rfl
  · rfl

@[simp] theorem State.countView_addCharge (s : State) (tag : Nat) (r : Content) (a : Action) :
    (s.addCharge tag r a).countView = s.countView := State.countView_reportSpent _ _ _

theorem State.countView_addCheck (s : State) (n : PortId) (c : Cell) : (s.addCheck n c).countView = s.countView := by
  unfold State.addCheck
  dsimp only
  split <;> simp

theorem State.countView_addMeetsPolicy (s : State) (n : PortId) (c : Cell) :
    (s.addMeetsPolicy n c).countView = s.countView := by
  have h {x : Cell} {m : Bool} {p : State × Bool} (hp : s.offerAdd n x m = p) : p.1.countView = s.countView :=
    hp ▸ s.countView_offerAdd n x m
  unfold State.addMeetsPolicy
  split
  iterate 3 split <;> rename_i hc <;> exact h hc
  · rfl

theorem State.countView_steerAdd (s : State) (n : PortId) (c : Cell) : (s.steerAdd n c).countView = s.countView := by
  unfold State.steerAdd
  split
  · exact s.countView_addCheck n c
  · exact s.countView_addMeetsPolicy n c
  iterate 2 rfl

theorem State.countView_deferredCheck (s : State) (n : PortId) : (s.deferredCheck n).countView = s.countView := by
  unfold State.deferredCheck
  split
  · rfl
  · split
    · dsimp only
      split
      · simp
      · exact s.countView_addFails _ _ _
    · rfl

theorem countView_deferredChecks (fuel : Nat) (n : PortId) (s : State) :
    (deferredChecks fuel n s).countView = s.countView := by
  induction fuel generalizing s with
  | zero => rfl
  | succ fuel ih => exact (ih _).trans (s.countView_deferredCheck n)

theorem State.countView_allDeferred (s : State) (order : List PortId) : (s.allDeferred order).countView = s.countView := by
  have hfirst := foldl_countView State.countView_deferredCheck order s
  unfold State.allDeferred
  generalize order.foldl State.deferredCheck s = t at hfirst
  rw [← hfirst]
  exact foldl_countView (fun u n => countView_deferredChecks _ n u) allFour t

theorem State.countView_sendChoice (s : State) (x : Choice) : (s.sendChoice x).countView = s.countView := by
  cases x <;> rfl

/-! ### The Agent's dealing with cells -/

/-- A change to the agent counters that the law does not look at, or that raises its two sides alike. -/
theorem State.countView_countAgent (s : State) {f : AgentCounters → AgentCounters}
    (hf : (f s.agentCtr).ahead = s.agentCtr.ahead) : (s.countAgent f).countView = s.countView :=
  congrArg (Prod.mk s.rx.ahead) hf

theorem State.countView_notePast (s : State) (o : Origin) (seq : BitVec 16) (anew : Bool) :
    (s.notePast o seq anew).countView = s.countView := rfl

theorem State.countView_offerResponse (s : State) (o : Origin) (c : Cell) :
    (s.offerResponse o c).countView = s.countView := by
  rcases s.offerResponse_cases o c with ⟨-, h⟩ | ⟨-, h⟩ <;> rw [h] <;>
    exact (State.countView_countAgent _ (by simp only [AgentCounters.ahead])).trans (s.countView_claim _ _)

/-- A cell that the Agent deals with itself is counted by one of the eight counters (R142, R144). -/
theorem State.countView_dispose (s : State) (m : HandCell) {v : Verdict} (ha : v ≠ .ack) (he : v ≠ .execute) :
    (s.dispose m v).countView = s.countView := by
  have counted {f : AgentCounters → AgentCounters} (hf : ∀ c : AgentCounters,
      (f { c with requestsConsumed := c.requestsConsumed + 1 }).ahead = c.ahead) :
      (s.consume.countAgent f).countView = s.countView := congrArg (Prod.mk s.rx.ahead) (hf s.agentCtr)
  cases v with
  | ack => exact absurd rfl ha
  | execute => exact absurd rfl he
  | starting =>
    refine ((State.countView_offerResponse _ _ _).trans (State.countView_notePast _ _ _ _)).trans (counted fun c => ?_)
    simp only [AgentCounters.ahead]
    ring
  | repeatOf r =>
    refine (State.countView_offerResponse _ _ _).trans (counted fun c => ?_)
    simp only [AgentCounters.ahead]
    ring
  | notRequest | badSource | repeatPending | stale =>
    refine counted fun c => ?_
    simp only [AgentCounters.ahead]
    ring

theorem countView_settleHands (hs : List HandCell) (s : State) : (settleHands hs s).countView = s.countView := by
  induction hs generalizing s with
  | nil => rfl
  | cons m rest ih =>
    simp only [settleHands]
    split
    · rfl
    · rename_i hv
      obtain ⟨ha, he⟩ := not_or.1 hv
      exact (ih _).trans (s.countView_dispose m ha he)

theorem State.countView_giveAgent (s : State) (m : HandCell) : (s.giveAgent m).countView = s.countView :=
  countView_settleHands _ s

/-- A request that is entered is counted as executed (R142, R144). -/
theorem State.countView_entered (s : State) (m : HandCell) (rest : List HandCell) :
    (s.entered m rest).countView = s.countView := by
  have hrx : (s.entered m rest).rx = s.rx := by rw [s.entered_sameBlocks m rest]
  have hahead : (s.entered m rest).agentCtr.ahead = s.agentCtr.ahead := by
    rw [s.entered_agentCtr]
    simp only [AgentCounters.ahead]
    ring
  simp only [State.countView, hrx, hahead]

/-! ### The Notice Unit and the lease -/

theorem State.countView_offerNotice (s : State) (o : Origin) (e : NoticeEntry) :
    (s.offerNotice o e).countView = s.countView := by
  have h := s.countView_claim (mgmtQueue o) { cell := s.noticeCell o e, source := .notice, marked := false }
  unfold State.offerNotice
  split <;> rename_i hc <;> rw [hc] at h <;> exact h

theorem State.countView_resendNotice (s : State) (o : Origin) (e : NoticeEntry) (k : Nat) :
    (s.resendNotice o e k).countView = s.countView := by
  rw [← s.countView_offerNotice o e]
  unfold State.resendNotice
  generalize s.offerNotice o e = t
  rfl

theorem State.countView_sendOldest (s : State) : s.sendOldest.countView = s.countView := by
  unfold State.sendOldest
  split
  · split
    · rfl
    · rename_i o e _ _ _ _
      have hoffer := s.countView_offerNotice o e
      generalize s.offerNotice o e = t at hoffer
      exact hoffer
  · rfl

theorem State.countView_takeReport (s : State) (r : Report) : (s.takeReport r).countView = s.countView := by
  unfold State.takeReport
  dsimp only
  split
  · rfl
  · split
    · exact State.countView_sendOldest _
    · rfl

theorem State.countView_accountLost (s : State) : s.accountLost.countView = s.countView := by
  unfold State.accountLost
  split
  · rfl
  · split <;> rfl

theorem State.countView_takeAck (s : State) (o : Origin) (number : BitVec 16) :
    (s.takeAck o number).countView = s.countView := by
  unfold State.takeAck
  dsimp only
  split
  · split
    · exact (State.countView_sendOldest _).trans (State.countView_accountLost _)
    · rfl
  · rfl

theorem State.countView_destinationSelected (s : State) : s.destinationSelected.countView = s.countView := by
  unfold State.destinationSelected
  dsimp only
  split
  · rfl
  · split
    · exact State.countView_resendNotice _ _ _ _
    · exact State.countView_sendOldest _

theorem State.countView_takeResetReports (s : State) : s.takeResetReports.countView = s.countView :=
  foldl_countView (fun t (h : Handed) => t.countView_takeReport h.report) _ _

theorem State.countView_follow (s : State) (leased : Bool) (o : Origin) : (s.follow leased o).countView = s.countView := by
  have hcontact (t : State) : (t.contact o).countView = t.countView := by
    unfold State.contact
    split
    · split
      · exact State.countView_resendNotice _ _ _ _
      · rfl
    · rfl
  refine (hcontact _).trans ?_
  unfold State.renewFor
  split
  · split <;> rfl
  · rfl

theorem State.countView_respond (s : State) (r : Request) (st : Status) (body : List Byte) :
    (s.respond r st body).countView = s.countView := State.countView_offerResponse _ _ _

theorem State.countView_concluded (s : State) (leased : Bool) (r : Request) (reply : Reply) :
    (s.concluded leased r reply).countView = s.countView := by
  cases reply with
  | answer st body => exact (State.countView_follow _ _ _).trans (s.countView_respond r st body)
  | accepted => exact s.countView_follow leased r.origin
  | reset body =>
    exact (State.countView_takeResetReports _).trans
      ((State.countView_follow _ _ _).trans (s.countView_respond r .ok body))

theorem State.countView_readLease (s : State) : s.readLease.1.countView = s.countView := by
  unfold State.readLease
  split <;> rfl

/-! ### The ports -/

@[simp] theorem State.countView_movePort (s : State) (n : PortId) (x : PortState) :
    (s.movePort n x).countView = s.countView := rfl

@[simp] theorem State.countView_enterAligning (s : State) (n : PortId) :
    (s.enterAligning n).countView = s.countView := rfl

theorem State.countView_tryAlign (s : State) (n : PortId) : (s.tryAlign n).countView = s.countView := by
  unfold State.tryAlign
  split <;> rfl

@[simp] theorem State.countView_leaveUp (s : State) (n : PortId) : (s.leaveUp n).countView = s.countView := by
  unfold State.leaveUp
  dsimp only
  split <;> simp

theorem State.countView_leaveFor (s : State) (n : PortId) (x : PortState) :
    (s.leaveFor n x).countView = s.countView := by
  unfold State.leaveFor
  split
  · simp
  · rfl
  iterate 2 split <;> rfl

theorem State.countView_onAlign (s : State) (n : PortId) : (s.onAlign n).countView = s.countView := by
  unfold State.onAlign
  split
  · simp
  iterate 3 rfl

theorem State.countView_onAlignAck (s : State) (n : PortId) (token : Byte) :
    (s.onAlignAck n token).countView = s.countView := by
  unfold State.onAlignAck
  split <;> rfl

theorem State.countView_onCredit (s : State) (n : PortId) (amount : Byte) :
    (s.onCredit n amount).countView = s.countView := by
  unfold State.onCredit
  split
  · split
    · rfl
    · split <;> rfl
  · rfl

theorem State.countView_onLink (s : State) (n : PortId) (c : Cell) : (s.onLink n c).countView = s.countView := by
  unfold State.onLink
  split
  · exact s.countView_onAlign n
  · split
    · exact s.countView_onAlignAck n _
    · split
      · exact s.countView_onCredit n _
      · rfl

theorem State.countView_onPortMgmt (s : State) (n : PortId) (c : Cell) : (s.onPortMgmt n c).countView = s.countView := by
  unfold State.onPortMgmt
  split
  · exact State.countView_giveAgent _ _
  · rfl

theorem State.countView_onAddData (s : State) (n : PortId) (c : Cell) : (s.onAddData n c).countView = s.countView := by
  unfold State.onAddData
  split
  · rfl
  · exact State.countView_steerAdd _ n c

theorem State.countView_onPortCell (s : State) (n : PortId) (c : Cell) : (s.onPortCell n c).countView = s.countView := by
  unfold State.onPortCell
  split
  · rfl
  · split
    · exact s.countView_onAddData n c
    · rfl
  · split
    · exact s.countView_onPortMgmt n c
    · rfl
  · exact s.countView_onLink n c

theorem State.countView_portArrive (s : State) (n : PortId) (bytes : List Byte) :
    (s.portArrive n bytes).countView = s.countView := by
  cases hw : portWellFormed bytes with
  | true => rw [s.portArrive_of_wellFormed n hw]; exact State.countView_onPortCell _ n _
  | false =>
    obtain ⟨f, hf⟩ := s.portArrive_of_malformed n hw
    rw [hf]; rfl

theorem State.countView_portOpportunity (s : State) (n : PortId) : (s.portOpportunity n).countView = s.countView := by
  unfold State.portOpportunity
  dsimp only
  split
  · rfl
  · split
    · rfl
    · split
      · rfl
      · split <;> rfl

/-! ### Arrivals on TIN -/

/-- An arrival that is given to one of the thirteen counters is counted once on each side of the law (R106). -/
theorem State.countView_arrived (s : State) {f : RxCounters → RxCounters}
    (hf : ∀ c : RxCounters, (f { c with arrivals := c.arrivals + 1 }).ahead = c.ahead) :
    ((s.countRx fun k => { k with arrivals := k.arrivals + 1 }).countRx f).countView = s.countView :=
  congrArg (fun x => (x, s.agentCtr.ahead)) (hf s.rx)

/-- A DATA cell that has arrived is handed to steering, or takes the start-up bypass, and is counted (R98). -/
theorem State.countView_trunkData (s : State) (c : Cell) :
    ((s.countRx fun k => { k with arrivals := k.arrivals + 1 }).trunkData c).countView = s.countView := by
  unfold State.trunkData
  split
  · exact (State.countView_steerTrunk _ c).trans (s.countView_arrived fun k => by simp only [RxCounters.ahead]; ring)
  · split
    · exact s.countView_arrived fun k => by simp only [RxCounters.ahead]; ring
    · exact (State.countView_offer _ _ _ _).trans (s.countView_arrived fun k => by simp only [RxCounters.ahead]; ring)

/-- A MGMT cell that has arrived is counted by where it is routed (R101 to R104). -/
theorem State.countView_trunkMgmt (s : State) (c : Cell) :
    ((s.countRx fun k => { k with arrivals := k.arrivals + 1 }).trunkMgmt c).countView = s.countView := by
  unfold State.trunkMgmt
  split
  · exact s.countView_arrived fun k => by simp only [RxCounters.ahead]; ring
  · exact (State.countView_giveAgent _ _).trans (s.countView_arrived fun k => by simp only [RxCounters.ahead]; ring)
  · split
    · exact s.countView_arrived fun k => by simp only [RxCounters.ahead]; ring
    · exact (State.countView_offer _ _ _ _).trans (s.countView_arrived fun k => by simp only [RxCounters.ahead]; ring)

/-- Every arrival is counted by the check that it fails, or by what is made of its cell (R96, R106). -/
theorem State.countView_trunkArrive (s : State) (bytes : List Byte) : (s.trunkArrive bytes).countView = s.countView := by
  unfold State.trunkArrive
  dsimp only
  split
  · exact s.countView_arrived fun k => by simp only [RxCounters.ahead]; ring
  · split
    · exact s.countView_arrived fun k => by simp only [RxCounters.ahead]; ring
    · split
      · exact s.countView_arrived fun k => by simp only [RxCounters.ahead]; ring
      · rename_i hlink
        split
        · exact s.countView_arrived fun k => by simp only [RxCounters.ahead]; ring
        · split
          · exact s.countView_arrived fun k => by simp only [RxCounters.ahead]; ring
          · unfold State.onTrunkCell
            split
            · exact s.countView_arrived fun k => by simp only [RxCounters.ahead]; ring
            · exact s.countView_trunkData _
            · exact s.countView_trunkMgmt _
            · exact absurd ‹_› hlink

/-! ### The batch and its edits -/

theorem State.countView_applyDecided (s : State) (p n : Nat) (decision : Content → Option Content) (v : Verify) :
    (s.applyDecided p n decision v).countView = s.countView := by
  unfold State.applyDecided
  dsimp only
  split
  · split
    · rfl
    · exact s.countView_writeVerified n _ v
  · rfl

theorem countView_clearRun (vs : List (UsableTag × Verify)) (tags : List Nat) (s : State) (failed : Option Nat) :
    (clearRun vs tags (s, failed)).1.countView = s.countView := by
  induction tags generalizing s failed with
  | nil => rfl
  | cons n rest ih => exact (ih _ _).trans (s.countView_writeVerified n _ _)

theorem State.countView_applyClearBank (s : State) (p : Nat) (b : BankId) (vs : List (UsableTag × Verify)) :
    (s.applyClearBank p b vs).countView = s.countView := by
  have h := countView_clearRun vs (bankTags b) s none
  unfold State.applyClearBank
  split <;> rename_i hc <;> rw [hc] at h <;> exact h

theorem State.countView_discardOpen (s : State) : s.discardOpen.countView = s.countView := by
  unfold State.discardOpen
  split <;> rfl

theorem State.countView_batchEndSignal (s : State) : s.batchEndSignal.countView = s.countView := by
  unfold State.batchEndSignal
  split <;> rfl

theorem State.countView_finishBatch (s : State) (st : Status) (applied : List BankId) (os : List Outcome) :
    (s.finishBatch st applied os).countView = s.countView := by
  refine (State.countView_batchEndSignal _).trans ?_
  split
  · exact State.countView_offerResponse _ _ _
  · rfl

theorem State.countView_tryStart (s : State) : s.tryStart.countView = s.countView := by
  unfold State.tryStart State.startApply
  split
  · split
    · rfl
    · exact s.countView_finishBatch _ _ _
  · rfl

theorem State.countView_bankEnd (s : State) (b : BankId) : (s.bankEnd b).countView = s.countView := by
  unfold State.bankEnd
  dsimp only
  split
  · split
    · exact State.countView_finishBatch _ _ _ _
    · rfl
  · exact State.countView_finishBatch _ _ _ _

theorem State.countView_clearBankEnd (s : State) (b : BankId) : (s.clearBankEnd b).countView = s.countView := by
  unfold State.clearBankEnd
  dsimp only
  split
  · rfl
  · exact foldl_countView State.countView_tryAlign allFour _

end Sys2Proof.Machine
end

section
namespace Sys2Proof.Machine

/-! ### The requests -/

section
variable {r : Request} {s : State}

theorem handleNodeQuery_countView : (handleNodeQuery r s).1.countView = s.countView := by
  unfold handleNodeQuery
  split
  · rfl
  · exact s.countView_readLease

theorem handleNodeSet_countView : (handleNodeSet r s).1.countView = s.countView := by
  unfold handleNodeSet
  split
  · split
    · rfl
    · dsimp only
      split
      · exact State.countView_destinationSelected _
      · rfl
  · rfl

theorem handleQueueSet_countView : (handleQueueSet r s).1.countView = s.countView := by
  unfold handleQueueSet
  split
  · split
    · rfl
    · dsimp only
      generalize (if (addQueuePort _).isSome = true then _ else _) = ceiling
      split
      · rfl
      · split
        · rfl
        · split
          · rfl
          · split <;> rfl
  · rfl

theorem handleQueueFlush_countView : (handleQueueFlush r s).1.countView = s.countView := by
  unfold handleQueueFlush
  split
  · split
    · rfl
    · dsimp only
      split
      · exact (State.countView_tryStart _).trans (s.countView_flush _)
      · rfl
  · rfl

theorem handlePortSet_countView : (handlePortSet r s).1.countView = s.countView := by
  unfold handlePortSet
  split
  · split
    · rfl
    · rename_i n _
      dsimp only
      split
      · rfl
      · dsimp only
        split
        · split
          · rfl
          · exact s.countView_leaveFor n .off
        · split
          · exact (State.countView_tryAlign _ n).trans (s.countView_movePort n .down)
          · rfl
  · rfl

theorem handleAssignAddress_countView : (handleAssignAddress r s).1.countView = s.countView := by
  unfold handleAssignAddress
  split
  · split
    · rfl
    · split <;> rfl
  · rfl

theorem handleBatchOpen_countView : (handleBatchOpen r s).1.countView = s.countView := by
  unfold handleBatchOpen
  split
  · split
    · rfl
    · split
      · rfl
      · split <;> rfl
  · rfl

theorem handleBatchEdit_countView : (handleBatchEdit r s).1.countView = s.countView := by
  unfold handleBatchEdit
  dsimp only
  split
  · rfl
  · split
    · rfl
    · split
      · rfl
      · split <;> rfl

theorem handleBatchCommit_countView : (handleBatchCommit r s).1.countView = s.countView := by
  unfold handleBatchCommit
  split
  · split
    iterate 3 rfl
    · split
      · rfl
      · split
        · rfl
        · split
          · rfl
          · exact State.countView_tryStart _
  · rfl

theorem handleBatchAbort_countView : (handleBatchAbort r s).1.countView = s.countView := by
  unfold handleBatchAbort
  split
  · split
    · rfl
    · split
      · rfl
      · rfl
      · exact s.countView_finishBatch _ _ _
      · rfl
  · rfl

theorem handleLeaseTake_countView : (handleLeaseTake r s).1.countView = s.countView := by
  unfold handleLeaseTake
  split
  · split
    · rfl
    · split
      · rfl
      · split
        · rfl
        · split
          · exact s.countView_readLease
          · split
            · rfl
            · exact s.countView_discardOpen
  · rfl

theorem handleLeaseRenew_countView : (handleLeaseRenew r s).1.countView = s.countView := by
  unfold handleLeaseRenew
  split
  · rfl
  · split <;> rfl

theorem handleLeaseGive_countView : (handleLeaseGive r s).1.countView = s.countView := by
  unfold handleLeaseGive
  split
  · rfl
  · split
    · rfl
    · split <;> rfl

/-- Clearing every counter puts the totals and their sums at 0 (R159, R195). -/
theorem CountLaws.of_cleared (hr : s.rx = {}) (ha : s.agentCtr = {}) : CountLaws s := by
  simp [CountLaws, ArrivalCountLaw, RequestCountLaw, hr, ha]

theorem CountLaws.countersClear (h : CountLaws s) : CountLaws (handleCountersClear r s).1 := by
  unfold handleCountersClear
  split
  · exact h
  · exact .of_cleared rfl rfl

theorem CountLaws.nodeReset (h : CountLaws s) : CountLaws (handleNodeReset r s).1 := by
  unfold handleNodeReset
  split
  · exact h
  · exact .of_cleared rfl rfl

/-- A request is counted when it is entered; it keeps the laws when its block does. -/
theorem CountLaws.takeRequest {mine : Byte → Bool} {handler : Request → State → State × Reply}
    (hh : ∀ r e, CountLaws e → CountLaws (handler r e).1) (h : CountLaws s) : CountLaws (s.takeRequest mine handler) := by
  unfold State.takeRequest
  split
  · exact h
  · rename_i m rest _
    split
    · have hentered : CountLaws (s.entered m rest) := h.congr (s.countView_entered m rest)
      have hhandled : CountLaws ((s.entered m rest).handled m.cell.bodyMisfits m.request handler).1 := by
        rcases (s.entered m rest).handled_cases m.cell.bodyMisfits m.request handler with hc | hc <;> rw [hc]
        · exact hentered
        · exact hh _ _ hentered
      exact hhandled.congr ((countView_settleHands _ _).trans (State.countView_concluded _ _ _ _))
    · exact h

end

/-! ### Every command keeps the laws -/

/-- The commands that keep `countView`, whatever the state: all but the reset, and the requests. -/
def countQuiet : Instr → Bool
  | .hardwareResetEnd _ _ | .recordDamage _ _ | .tinSignalPresent | .tinSignalLost _ | .tinArrival _ | .noticeAck
  | .applyStart | .write _ | .clear _ | .refill _ | .bar _ | .unbar _ | .clearBank _ | .bankEnd | .startUpClear _
  | .toutOpportunity _ | .holdQueueDrain | .portSignalPresent _ | .portSignalLost _ _ | .portArrival _ _ | .align _
  | .alignAck _ _ | .credit _ _ | .portOpportunity _ | .resendTimerExpiry _ | .stallTimerExpiry _ | .silenceTimeout _
  | .ackTimerExpiry | .leaseTimerExpiry | .eventReport _ => true
  | _ => false

/-- A command that is taken under a condition, and otherwise leaves the state as it is (log entry 2). -/
theorem Leaves.ite {c : Prop} [Decidable c] {a b : State} {P : State → Prop} (ha : P a) (hb : P b) :
    Leaves (if c then .next a else .next b) P := by
  split
  · exact leaves_next.2 ha
  · exact leaves_next.2 hb

/-- A NOTICE-ACK that is handed on is counted (R142, R158). -/
theorem execNoticeAck_countView (s : State) : Leaves (execNoticeAck s) fun t => t.countView = s.countView := by
  unfold execNoticeAck
  split
  · exact leaves_next.2 rfl
  · rename_i m rest _
    have hcounted : ((s.setHands rest).consume.countAgent fun c => { c with acksForwarded := c.acksForwarded + 1 }).countView
        = s.countView := by
      refine congrArg (Prod.mk s.rx.ahead) ?_
      simp only [AgentCounters.ahead, State.consume, State.countAgent, State.setHands]
      ring
    split
    · exact leaves_next.2 ((countView_settleHands _ _).trans ((State.countView_takeAck _ _ _).trans hcounted))
    · exact leaves_next.2 rfl

theorem execStartUpClear_countView (v : Verify) (s : State) :
    Leaves (execStartUpClear v s) fun t => t.countView = s.countView := by
  unfold execStartUpClear
  dsimp only
  split
  · have hw := s.countView_writeVerified s.clearNext Content.cleared v
    generalize (s.writeVerified s.clearNext Content.cleared v).1 = t at hw
    rw [leaves_next]
    split
    · exact (State.countView_clearBankEnd _ _).trans hw
    · exact hw
  · exact leaves_next.2 rfl

theorem execPortSignalLost_countView (n : PortId) (begun : Bool) (s : State) :
    Leaves (execPortSignalLost n begun s) fun t => t.countView = s.countView := by
  unfold execPortSignalLost
  split
  · exact leaves_next.2 rfl
  · dsimp only
    split
    iterate 2 exact leaves_next.2 ((State.countView_leaveFor _ n .down).trans (s.countView_onPort n _))
    iterate 2 exact leaves_next.2 (s.countView_onPort n _)

theorem execAckTimerExpiry_countView (s : State) : Leaves (execAckTimerExpiry s) fun t => t.countView = s.countView := by
  unfold execAckTimerExpiry
  split
  · split
    · exact leaves_next.2 (s.countView_resendNotice _ _ _)
    · exact leaves_next.2 rfl
  · exact leaves_next.2 rfl

theorem execBankEnd_countView (s : State) : Leaves (execBankEnd s) fun t => t.countView = s.countView := by
  unfold execBankEnd
  split
  · split
    · exact leaves_next.2 (s.countView_bankEnd _)
    · exact leaves_next.2 rfl
  · exact leaves_next.2 rfl

theorem execLeaseTimerExpiry_countView (s : State) :
    Leaves (execLeaseTimerExpiry s) fun t => t.countView = s.countView := by
  unfold execLeaseTimerExpiry
  split
  · split
    iterate 2 exact leaves_next.2 s.countView_discardOpen
    iterate 2 exact leaves_next.2 rfl
  · exact leaves_next.2 rfl

theorem exec_countView {i : Instr} (h : countQuiet i = true) (s : State) :
    Leaves (exec i s) fun t => t.countView = s.countView := by
  cases i with
  | hardwareResetEnd naddr lmgt => exact .ite rfl rfl
  | recordDamage tag c => exact .ite rfl rfl
  | tinSignalPresent => exact .ite rfl rfl
  | tinSignalLost begun =>
    refine .ite (congrArg (fun x => (x, s.agentCtr.ahead)) ?_) rfl
    simp only [RxCounters.ahead, State.moveTin, State.hand, State.countRx]
  | tinArrival bytes => exact .ite (s.countView_trunkArrive bytes) rfl
  | noticeAck => exact execNoticeAck_countView s
  | applyStart => exact .ite rfl s.countView_tryStart
  | write v =>
    simp only [exec, execWrite]
    split
    · exact leaves_next.2 (s.countView_writeVerified _ _ v)
    · exact leaves_next.2 rfl
  | clear v =>
    simp only [exec, execClear]
    split
    · exact leaves_next.2 (s.countView_writeVerified _ _ v)
    · exact leaves_next.2 rfl
  | refill v =>
    simp only [exec, execRefill]
    split
    · exact leaves_next.2 (s.countView_applyDecided _ _ _ v)
    · exact leaves_next.2 rfl
  | bar v =>
    simp only [exec, execBar]
    split
    · exact leaves_next.2 (s.countView_applyDecided _ _ _ v)
    · exact leaves_next.2 rfl
  | unbar v =>
    simp only [exec, execUnbar]
    split
    · exact leaves_next.2 (s.countView_applyDecided _ _ _ v)
    · exact leaves_next.2 rfl
  | clearBank vs =>
    simp only [exec, execClearBank]
    split
    · exact leaves_next.2 (s.countView_applyClearBank _ _ vs)
    · exact leaves_next.2 rfl
  | bankEnd => exact execBankEnd_countView s
  | startUpClear v => exact execStartUpClear_countView v s
  | toutOpportunity order => exact .ite rfl ((State.countView_sendChoice _ _).trans (s.countView_allDeferred order))
  | holdQueueDrain =>
    simp only [exec, execHoldQueueDrain]
    split
    · exact leaves_next.2 ((State.countView_tryStart _).trans (State.countView_lookup _ _))
    · exact leaves_next.2 rfl
  | portSignalPresent n => exact .ite rfl ((State.countView_tryAlign _ n).trans (s.countView_onPort n _))
  | portSignalLost n begun => exact execPortSignalLost_countView n begun s
  | portArrival n bytes => exact .ite (s.countView_portArrive n bytes) rfl
  | align n => exact .ite (State.countView_onAlign _ n) rfl
  | alignAck n token => exact .ite (State.countView_onAlignAck _ n token) rfl
  | credit n amount => exact .ite (State.countView_onCredit _ n amount) rfl
  | portOpportunity n => exact .ite rfl (s.countView_portOpportunity n)
  | resendTimerExpiry n => exact .ite rfl rfl
  | stallTimerExpiry n => exact .ite rfl rfl
  | silenceTimeout n =>
    refine .ite ((State.countView_tryAlign _ n).trans ?_) rfl
    rw [State.countView_countPort, State.countView_leaveFor]
  | ackTimerExpiry => exact execAckTimerExpiry_countView s
  | leaseTimerExpiry => exact execLeaseTimerExpiry_countView s
  | eventReport b =>
    simp only [exec, execEventReport]
    split
    · exact leaves_next.2 (State.countView_takeReport _ _)
    · exact leaves_next.2 rfl
  | _ => cases h

/-- A request keeps the laws when its block keeps `countView`. -/
theorem CountLaws.takeRequest_of_view {s : State} {mine : Byte → Bool} {handler : Request → State → State × Reply}
    (hh : ∀ r e, (handler r e).1.countView = e.countView) (h : CountLaws s) : CountLaws (s.takeRequest mine handler) :=
  h.takeRequest fun r e he => he.congr (hh r e)

theorem exec_countLaws (i : Instr) {s : State} (h : CountLaws s) : Leaves (exec i s) CountLaws := by
  cases i with
  | hardwareReset => exact leaves_next.2 (.of_cleared rfl rfl)
  | countersClear => exact leaves_next.2 (h.takeRequest fun _ _ he => he.countersClear)
  | nodeReset => exact leaves_next.2 (h.takeRequest fun _ _ he => he.nodeReset)
  | unknownRequest => exact leaves_next.2 (h.takeRequest_of_view fun _ _ => rfl)
  | nodeQuery => exact leaves_next.2 (h.takeRequest_of_view fun _ _ => handleNodeQuery_countView)
  | countersRead => exact leaves_next.2 (h.takeRequest_of_view fun r e => congrArg _ (handleCountersRead_fst r e))
  | entryRead => exact leaves_next.2 (h.takeRequest_of_view fun r e => congrArg _ (handleEntryRead_fst r e))
  | tableScan => exact leaves_next.2 (h.takeRequest_of_view fun r e => congrArg _ (handleTableScan_fst r e))
  | queueQuery => exact leaves_next.2 (h.takeRequest_of_view fun r e => congrArg _ (handleQueueQuery_fst r e))
  | portQuery => exact leaves_next.2 (h.takeRequest_of_view fun r e => congrArg _ (handlePortQuery_fst r e))
  | nodeSet => exact leaves_next.2 (h.takeRequest_of_view fun _ _ => handleNodeSet_countView)
  | queueSet => exact leaves_next.2 (h.takeRequest_of_view fun _ _ => handleQueueSet_countView)
  | queueFlush => exact leaves_next.2 (h.takeRequest_of_view fun _ _ => handleQueueFlush_countView)
  | portSet => exact leaves_next.2 (h.takeRequest_of_view fun _ _ => handlePortSet_countView)
  | assignAddress => exact leaves_next.2 (h.takeRequest_of_view fun _ _ => handleAssignAddress_countView)
  | batchOpen => exact leaves_next.2 (h.takeRequest_of_view fun _ _ => handleBatchOpen_countView)
  | batchEdit => exact leaves_next.2 (h.takeRequest_of_view fun _ _ => handleBatchEdit_countView)
  | batchCommit => exact leaves_next.2 (h.takeRequest_of_view fun _ _ => handleBatchCommit_countView)
  | batchAbort => exact leaves_next.2 (h.takeRequest_of_view fun _ _ => handleBatchAbort_countView)
  | leaseTake => exact leaves_next.2 (h.takeRequest_of_view fun _ _ => handleLeaseTake_countView)
  | leaseRenew => exact leaves_next.2 (h.takeRequest_of_view fun _ _ => handleLeaseRenew_countView)
  | leaseGive => exact leaves_next.2 (h.takeRequest_of_view fun _ _ => handleLeaseGive_countView)
  | _ => exact Leaves.mono (exec_countView rfl s) fun _ ht => h.congr ht

/-- Settles O9: each command raises a total and one counter of its sum alike, or puts all of them at 0. -/
theorem everyStepKeepsTheCountLaws : Obligations.EveryStepKeepsTheCountLaws := by
  unfold Obligations.EveryStepKeepsTheCountLaws
  intro s t hs hstep
  exact step_keeps (fun i _ h => exec_countLaws i h) (fun _ _ h => h.congr rfl) hs hstep

end Sys2Proof.Machine
end

section
namespace Sys2Proof.Machine

/-! ## O10: cells and their bytes (R95, R113, R160) -/

/-! ### Three fields in one value -/

section
variable {k m n : Nat} (a : BitVec k) (b : BitVec m) (d : BitVec n)

theorem extractLsb'_first_of_three : (a ++ b ++ d).extractLsb' (m + n) k = a := by
  rw [BitVec.extractLsb'_append_eq_of_le (Nat.le_add_left n m), Nat.add_sub_cancel, BitVec.extractLsb'_append_eq_left]

theorem extractLsb'_second_of_three : (a ++ b ++ d).extractLsb' n m = b := by
  rw [BitVec.extractLsb'_append_eq_of_le (Nat.le_refl n), Nat.sub_self, BitVec.extractLsb'_append_eq_right]

theorem append_extractLsb'_three (x : BitVec (k + m + n)) :
    x.extractLsb' (m + n) k ++ x.extractLsb' n m ++ x.extractLsb' 0 n = x := by
  rw [BitVec.extractLsb'_append_extractLsb'_eq_extractLsb' (Nat.add_comm m n), BitVec.extractLsb'_append_extractLsb']

end

theorem ofBool_getLsbD {w : Nat} (x : BitVec w) (i : Nat) : BitVec.ofBool (x.getLsbD i) = x.extractLsb' i 1 := by
  ext j hj
  obtain rfl : j = 0 := by omega
  simp

/-! ### The fields of a header -/

theorem Kind.ofCode_code (k : Kind) : Kind.ofCode k.code = k := by cases k <;> rfl

theorem Kind.code_ofCode (b : BitVec 2) : (Kind.ofCode b).code = b := by
  revert b
  decide

/-- The fields of a cell, from its first bytes (R160). -/
theorem cellOfBytes_cons (b0 b1 b2 b3 b4 b5 : Byte) (rest : List Byte) :
    cellOfBytes (b0 :: b1 :: b2 :: b3 :: b4 :: b5 :: rest) =
      { tag := b0 ++ b1.extractLsb' 4 4
        kind := Kind.ofCode (b1.extractLsb' 2 2)
        cls := (b1.extractLsb' 0 2).toFin
        seq := b2
        hop := b3.extractLsb' 4 4
        last := b3.getLsbD 3
        spare := b3.extractLsb' 0 3
        len := b4.extractLsb' 2 6
        spareLen := b4.extractLsb' 0 2
        payload := rest } := rfl

/-- A cell parses back from its bytes. -/
theorem cellOfBytes_frame (c : Cell) : cellOfBytes c.frame = c := by
  obtain ⟨tag, kind, cls, seq, hop, last, spare, len, spareLen, payload⟩ := c
  have hlow : (tag.extractLsb' 0 4 ++ kind.code ++ BitVec.ofFin (w := 2) cls).extractLsb' 4 4 = tag.extractLsb' 0 4 :=
    extractLsb'_first_of_three (tag.extractLsb' 0 4) kind.code (BitVec.ofFin (w := 2) cls)
  have htag : tag.extractLsb' 4 8 ++ tag.extractLsb' 0 4 = tag := BitVec.extractLsb'_append_extractLsb' (w := 8) (len := 4)
  have hkind : (tag.extractLsb' 0 4 ++ kind.code ++ BitVec.ofFin (w := 2) cls).extractLsb' 2 2 = kind.code :=
    extractLsb'_second_of_three (tag.extractLsb' 0 4) kind.code (BitVec.ofFin (w := 2) cls)
  have hcls : (tag.extractLsb' 0 4 ++ kind.code ++ BitVec.ofFin (w := 2) cls).extractLsb' 0 2 = BitVec.ofFin cls :=
    BitVec.extractLsb'_append_eq_right
  have hhop : (hop ++ BitVec.ofBool last ++ spare).extractLsb' 4 4 = hop :=
    extractLsb'_first_of_three hop (BitVec.ofBool last) spare
  have hlast : (hop ++ BitVec.ofBool last ++ spare).getLsbD 3 = last := by
    simp only [BitVec.getLsbD_append]
    simp
  have hspare : (hop ++ BitVec.ofBool last ++ spare).extractLsb' 0 3 = spare := BitVec.extractLsb'_append_eq_right
  have hlen : (len ++ spareLen).extractLsb' 2 6 = len := BitVec.extractLsb'_append_eq_left
  have hspareLen : (len ++ spareLen).extractLsb' 0 2 = spareLen := BitVec.extractLsb'_append_eq_right
  simp only [Cell.frame, Cell.header, List.cons_append, List.nil_append, cellOfBytes_cons, hlow, htag, hkind,
    Kind.ofCode_code, hcls, hhop, hlast, hspare, hlen, hspareLen]

/-- The header of the cell that bytes hold is those bytes. -/
theorem header_cellOfBytes (b0 b1 b2 b3 b4 b5 : Byte) (rest : List Byte) :
    (cellOfBytes (b0 :: b1 :: b2 :: b3 :: b4 :: b5 :: rest)).header = [b0, b1, b2, b3, b4] := by
  have h0 : (b0 ++ b1.extractLsb' 4 4).extractLsb' 4 8 = b0 := BitVec.extractLsb'_append_eq_left
  have hlow : (b0 ++ b1.extractLsb' 4 4).extractLsb' 0 4 = b1.extractLsb' 4 4 := BitVec.extractLsb'_append_eq_right
  have hcls (x : BitVec 2) : BitVec.ofFin (w := 2) x.toFin = x := rfl
  have h1 : b1.extractLsb' 4 4 ++ b1.extractLsb' 2 2 ++ b1.extractLsb' 0 2 = b1 :=
    append_extractLsb'_three (k := 4) (m := 2) (n := 2) b1
  have h3 : b3.extractLsb' 4 4 ++ b3.extractLsb' 3 1 ++ b3.extractLsb' 0 3 = b3 :=
    append_extractLsb'_three (k := 4) (m := 1) (n := 3) b3
  have h4 : b4.extractLsb' 2 6 ++ b4.extractLsb' 0 2 = b4 := BitVec.extractLsb'_append_extractLsb' (w := 6) (len := 2)
  simp only [cellOfBytes_cons, Cell.header, h0, hlow, Kind.code_ofCode, hcls, h1, ofBool_getLsbD, h3, h4]

/-- The header check sequence, bit by bit (R95). -/
theorem hcsOf_eq (header : List Byte) : hcsOf header =
    (header.flatMap fun b => (List.range 8).map fun k => b.getLsbD (7 - k)).foldl
      (fun (r : Byte) bit => if r.msb = bit then r <<< 1 else (r <<< 1) ^^^ 0x07#8) 0x00#8 := by
  have hbits : bitsOf = fun b => (List.range 8).map fun k => b.getLsbD (7 - k) := rfl
  have hstep : hcsBit = fun (r : Byte) bit => if r.msb = bit then r <<< 1 else (r <<< 1) ^^^ 0x07#8 := by
    funext r bit
    by_cases h : r.msb = bit <;> simp [hcsBit, h]
  rw [hcsOf, hbits, hstep]
  rfl

/-- Settles O10: a header holds its fields side by side, and the frame puts the header, its HCS and the payload in a row. -/
theorem framesParseBack : Obligations.FramesParseBack := by
  unfold Obligations.FramesParseBack
  refine ⟨fun c hc => ⟨?_, ?_, cellOfBytes_frame c⟩, fun bs hbs => ?_, ?_, hcsOf_eq⟩
  · simp [Cell.frame, Cell.header, hc]
  · simp [hcsMatches, byteAt, Cell.frame, Cell.header]
  · match bs, hbs with
    | b0 :: b1 :: b2 :: b3 :: b4 :: b5 :: rest, _ =>
      have hpayload : (cellOfBytes (b0 :: b1 :: b2 :: b3 :: b4 :: b5 :: rest)).payload = rest := rfl
      simp only [Cell.frame, header_cellOfBytes, hpayload, List.cons_append, List.nil_append, List.set_cons_succ,
        List.set_cons_zero, List.take_succ_cons, List.take_zero]
  · intro c header
    have hheader : header = c.header := by
      cases hk : c.kind <;> simp only [header, Cell.header, hk] <;> rfl
    rw [hheader]
    simp [Cell.frame]

end Sys2Proof.Machine
end

section
namespace Sys2Proof.Machine

/-! ## O18 to O20 and O25: the TIN link, and the arrivals on it -/

/-! ### The receive checks (R96) -/

theorem hcsMatches_iff (bytes : List Byte) : hcsMatches bytes = true ↔ byteAt bytes 5 = hcsOf (bytes.take 5) := beq_iff_eq

theorem tagKindWrong_iff (c : Cell) :
    tagKindWrong c = true ↔ c.kind = .mgmt ∧ c.tag ≠ 4095 ∨ c.kind = .data ∧ c.tag = 4095 := by
  simp only [tagKindWrong, Bool.or_eq_true, Bool.and_eq_true, decide_eq_true_eq]
  rfl

/-- An arrival is taken while TIN is ACTIVE (R94). -/
theorem exec_tinArrival {s : State} (bytes : List Byte) (hh : s.held = false) (ht : s.tin = .active) :
    exec (.tinArrival bytes) s = .next (s.trunkArrive bytes) := by
  simp only [exec, execTinArrival, hh, ht, and_self, if_true]

/-- A well-formed cell on TIN is counted and handled by its kind (R96). -/
theorem exec_tinArrival_takes {s : State} {bytes : List Byte} {c : Cell} (ht : TrunkTakes s bytes c) :
    exec (.tinArrival bytes) s = .next ((s.countRx fun k => { k with arrivals := k.arrivals + 1 }).onTrunkCell c) := by
  obtain ⟨hheld, htin, hw, rfl⟩ := ht
  rw [exec_tinArrival bytes hheld htin, s.trunkArrive_of_wellFormed hw]

/-- Settles O18: a signal moves TIN from the other state alone. -/
theorem tinFollowsItsSignal : Obligations.TinFollowsItsSignal := by
  unfold Obligations.TinFollowsItsSignal
  intro begun s hh
  refine ⟨fun ht => ⟨?_, ?_⟩, fun ht => ⟨?_, ?_⟩⟩
  · exact if_pos ⟨hh, ht⟩
  · exact if_neg fun h => by simp [ht] at h
  · exact if_neg fun h => by simp [ht] at h
  · exact if_pos ⟨hh, ht⟩

/-- Settles O19: the checks are peeled off the arrival one by one, each from those before it that pass. -/
theorem trunkReceiveChecks : Obligations.TrunkReceiveChecks := by
  unfold Obligations.TrunkReceiveChecks
  intro bytes s hh ht c rx
  rw [exec_tinArrival bytes hh ht]
  have hcs (h : byteAt bytes 5 = hcsOf (bytes.take 5)) : ¬(!hcsMatches bytes) = true := by
    simp [(hcsMatches_iff bytes).2 h]
  refine ⟨fun hlen => ?_, fun hlen hne => ?_, fun hlen heq hk => ?_, fun hlen heq hk hl => ?_, fun hlen heq hl htk => ?_,
    fun hlen heq hl hk => ?_⟩ <;> refine congrArg _ ?_ <;> dsimp only [State.trunkArrive]
  · rw [if_pos hlen]
    rfl
  · rw [if_neg (not_not.2 hlen), if_pos (by simpa [hcsMatches] using hne)]
    rfl
  · rw [if_neg (not_not.2 hlen), if_neg (hcs heq), if_pos hk]
    rfl
  · rw [if_neg (not_not.2 hlen), if_neg (hcs heq), if_neg hk, if_pos hl]
    rfl
  · have hk : c.kind ≠ .link := by rcases htk with ⟨h, -⟩ | ⟨h, -⟩ <;> rw [h] <;> decide
    rw [if_neg (not_not.2 hlen), if_neg (hcs heq), if_neg hk, if_neg (Nat.not_lt.2 hl), if_pos ((tagKindWrong_iff c).2 htk)]
    rfl
  · have hlink : c.kind ≠ .link := by rw [hk]; decide
    have hidle (t : State) : t.onTrunkCell c = t.countRx fun k => { k with idlesReceived := k.idlesReceived + 1 } := by
      simp only [State.onTrunkCell, hk]
    have htk : ¬tagKindWrong c = true := by simp [tagKindWrong, hk]
    rw [if_neg (not_not.2 hlen), if_neg (hcs heq), if_neg hlink, if_neg (Nat.not_lt.2 hl), if_neg htk]
    exact hidle _

/-! ### DATA cells while STARTING (R98) -/

theorem State.trunkData_expired {s : State} {c : Cell} (hn : s.nodeState = .starting) (h0 : c.hop = 0) :
    s.trunkData c = s.countRx fun k => { k with bypassExpired := k.bypassExpired + 1 } := by
  simp only [State.trunkData, hn, h0, if_true]

theorem State.trunkData_bypassed {s : State} {c : Cell} (hn : s.nodeState = .starting) (h0 : c.hop ≠ 0) :
    s.trunkData c =
      (s.countRx fun k => { k with bypassed := k.bypassed + 1 }).offer (tq c.cls) { c with hop := c.hop - 1 } .trunk := by
  simp only [State.trunkData, hn, h0, if_false]
  rfl

/-- Settles O20: the cell is well formed, and the start-up bypass looks at its hop alone. -/
theorem startUpBypass : Obligations.StartUpBypass := by
  unfold Obligations.StartUpBypass
  intro bytes c s ht hk hn rx
  have hdata : exec (.tinArrival bytes) s = .next (State.trunkData { s with rx := rx } c) := by
    rw [exec_tinArrival_takes ht]
    simp only [State.onTrunkCell, hk]
    rfl
  exact ⟨fun h0 => hdata.trans (congrArg _ (State.trunkData_expired (s := { s with rx := rx }) hn h0)),
    fun h0 => hdata.trans (congrArg _ (State.trunkData_bypassed (s := { s with rx := rx }) hn h0))⟩

/-! ### MGMT cells (R101 to R104) -/

/-- The cell has gone round without meeting its destination (R101). -/
def Agent.orphans (a : Agent) (c : Cell) : Prop := ∃ x, a.address = some x ∧ c.sourceByte = x ∧ c.destination ≠ x

/-- An unnumbered node passes on an ASSIGN-ADDRESS for another unit (R103). -/
def Agent.passesOn (a : Agent) (c : Cell) : Prop :=
  a.address = none ∧ c.destination = 254 ∧ c.code = 0x16 ∧ word32At c.payload 9 ≠ a.unitNumber

/-- The cell is for this node (R102, R103). -/
def Agent.consumes (a : Agent) (c : Cell) : Prop :=
  (∃ x, a.address = some x ∧ c.destination = x) ∨ a.address = none ∧ c.destination = 254 ∧ ¬a.passesOn c

section
variable {a : Agent} {c : Cell}

theorem Agent.route_orphan (h : a.orphans c) : a.route c = .orphan := by
  obtain ⟨x, ha, hs, hd⟩ := h
  simp only [Agent.route, ha, hs, hd, ne_eq, not_false_eq_true, and_self, if_true]

theorem Agent.route_consumed (h : a.consumes c) : a.route c = .consumed := by
  rcases h with ⟨x, ha, hd⟩ | ⟨ha, hd, hp⟩
  · simp only [Agent.route, ha, hd, ne_eq, not_true_eq_false, and_false, if_false, if_true]
  · have hunit : ¬(c.code = 0x16 ∧ word32At c.payload 9 ≠ a.unitNumber) := fun h => hp ⟨ha, hd, h⟩
    simp only [Agent.route, ha, hd, if_true, if_neg hunit]

theorem Agent.route_passedOn (h : a.passesOn c) : a.route c = .transit true := by
  obtain ⟨ha, hd, hunit⟩ := h
  simp only [Agent.route, ha, hd, if_true, if_pos hunit]

theorem Agent.route_transit (ho : ¬a.orphans c) (hc : ¬a.consumes c) (hp : ¬a.passesOn c) : a.route c = .transit false := by
  cases ha : a.address with
  | some x =>
    have hd : c.destination ≠ x := fun hd => hc (.inl ⟨x, ha, hd⟩)
    have hs : c.sourceByte ≠ x := fun hs => ho ⟨x, ha, hs, hd⟩
    simp only [Agent.route, ha, hs, hd, false_and, if_false]
  | none =>
    have hd : c.destination ≠ 254 := fun hd => hc (.inr ⟨ha, hd, hp⟩)
    simp only [Agent.route, ha, hd, if_false]

end

/-- A cell in transit at hop 0 expires, whatever its unit number (R104). -/
theorem State.trunkMgmt_expired {s : State} {c : Cell} {mismatch : Bool} (hr : s.agent.route c = .transit mismatch)
    (h0 : c.hop = 0) : s.trunkMgmt c = s.countRx fun k => { k with mgmtExpired := k.mgmtExpired + 1 } := by
  simp only [State.trunkMgmt, hr, h0, if_true]

theorem State.trunkMgmt_transit {s : State} {c : Cell} {mismatch : Bool} (hr : s.agent.route c = .transit mismatch)
    (h0 : c.hop ≠ 0) :
    s.trunkMgmt c = State.offer { s with rx := { s.rx with
        mgmtTransit := s.rx.mgmtTransit + 1
        assignPassed := if mismatch then s.rx.assignPassed + 1 else s.rx.assignPassed } }
      (tq c.cls) { c with hop := c.hop - 1 } .trunk := by
  simp only [State.trunkMgmt, hr, h0, if_false]
  rfl

/-- Settles O25: the addressing state gives the routing, and the routing the effect. -/
theorem managementCellsAreRouted : Obligations.ManagementCellsAreRouted := by
  unfold Obligations.ManagementCellsAreRouted
  intro bytes c s ht hk rx orphan passedOn consumed
  have hmgmt : exec (.tinArrival bytes) s = .next (State.trunkMgmt { s with rx := rx } c) := by
    rw [exec_tinArrival_takes ht]
    simp only [State.onTrunkCell, hk]
    rfl
  refine ⟨fun ho => hmgmt.trans (congrArg _ ?_), fun hc => hmgmt.trans (congrArg _ ?_),
    fun ho hc h0 => hmgmt.trans (congrArg _ ?_), fun ho hc h0 passed hp hnp => hmgmt.trans (congrArg _ ?_)⟩
  · have hr : s.agent.route c = .orphan := Agent.route_orphan ho
    simp only [State.trunkMgmt, hr]
    rfl
  · have hr : s.agent.route c = .consumed := Agent.route_consumed hc
    simp only [State.trunkMgmt, hr]
    rfl
  · by_cases hpass : passedOn
    · exact State.trunkMgmt_expired (s := { s with rx := rx }) (Agent.route_passedOn hpass) h0
    · exact State.trunkMgmt_expired (s := { s with rx := rx }) (Agent.route_transit ho hc hpass) h0
  · by_cases hpass : passedOn
    · rw [hp hpass]
      exact State.trunkMgmt_transit (s := { s with rx := rx }) (Agent.route_passedOn hpass) h0
    · rw [hnp hpass]
      exact State.trunkMgmt_transit (s := { s with rx := rx }) (Agent.route_transit ho hc hpass) h0

end Sys2Proof.Machine
end

section
namespace Sys2Proof.Machine

/-! ## O30: what a TOUT opportunity sends -/

/-! ### The candidates and their order (R108 to R110) -/

/-- A candidate is the head of its queue; one of an add queue is unmarked, and of the class (R108). -/
theorem State.candidate_eq_some {s : State} {c : ClassId} {i : Fin 5} {e : Entry} :
    s.candidate c i = some e ↔
      (s.queue (rotationQueue c i)).entries.head? = some e ∧ (i ≠ 0 → e.marked = false ∧ e.cell.cls = c) := by
  have hpos : i.val = 0 ↔ i = 0 := Fin.val_eq_zero_iff
  simp only [State.candidate, hpos]
  cases (s.queue (rotationQueue c i)).entries with
  | nil => simp
  | cons d rest =>
    by_cases hi : i = 0
    · simp [hi]
    · simp only [hi, if_false, Option.ite_none_right_eq_some, Option.some.injEq, List.head?_cons, ne_eq, not_false_eq_true,
        forall_const]
      exact ⟨fun ⟨h, he⟩ => ⟨he, he ▸ h⟩, fun ⟨he, h⟩ => ⟨he ▸ h, he⟩⟩

theorem State.candidate_eq_none {s : State} {c : ClassId} {i : Fin 5} (h : ∀ e, s.candidate c i ≠ some e) :
    s.candidate c i = none := Option.eq_none_iff_forall_ne_some.2 h

/-- A rotation takes the positions from its pointer on in turn (R110). -/
theorem rotationFrom_split (p k : Fin 5) :
    ∃ before after, rotationFrom p = before ++ (p + k) :: after ∧ ∀ i ∈ before, ∃ j < k, i = p + j := by
  refine ⟨(rotationFrom p).take k.val, (rotationFrom p).drop (k.val + 1), ?_⟩
  revert p k
  decide

/-- The classes are taken from the highest down (R109). -/
theorem classes_split (c : ClassId) :
    ∃ before after, ([3, 2, 1, 0] : List ClassId) = before ++ c :: after ∧ ∀ d ∈ before, c < d := by
  refine ⟨[3, 2, 1, 0].take (3 - c.val), [3, 2, 1, 0].drop (4 - c.val), ?_⟩
  revert c
  decide

/-- The first candidate from the pointer on wins its class's rotation (R110). -/
theorem State.rotationWinner_first {s : State} {c : ClassId} {k : Fin 5} {e : Entry}
    (hbefore : ∀ j < k, s.candidate c (s.rotation[c] + j) = none) (hk : s.candidate c (s.rotation[c] + k) = some e) :
    s.rotationWinner c = some (s.rotation[c] + k, e) := by
  obtain ⟨before, after, hsplit, hmem⟩ := rotationFrom_split s.rotation[c] k
  refine List.findSome?_eq_some_iff.2 ⟨before, _, after, hsplit, by rw [hk]; rfl, fun i hi => ?_⟩
  obtain ⟨j, hj, rfl⟩ := hmem i hi
  rw [hbefore j hj]
  rfl

theorem State.rotationWinner_none {s : State} {c : ClassId} (h : ∀ i, s.candidate c i = none) :
    s.rotationWinner c = none :=
  List.findSome?_eq_none_iff.2 fun i _ => by rw [h]; rfl

/-! ### The choice (R109) -/

theorem State.choose_management {s : State} {e : Entry} {rest : List Entry} (h : (s.queue mqt).entries = e :: rest) :
    s.choose = .management e := by
  simp only [State.choose, h]

theorem State.choose_rotation {s : State} {c : ClassId} {i : Fin 5} {e : Entry} (hm : (s.queue mqt).entries = [])
    (hhigher : ∀ d, c < d → s.rotationWinner d = none) (hc : s.rotationWinner c = some (i, e)) :
    s.choose = .rotation c i e := by
  obtain ⟨before, after, hsplit, hbefore⟩ := classes_split c
  have hfirst : ([3, 2, 1, 0] : List ClassId).findSome? (fun c => (s.rotationWinner c).map fun x => (c, x)) =
      some (c, i, e) :=
    List.findSome?_eq_some_iff.2
      ⟨before, c, after, hsplit, by rw [hc]; rfl, fun d hd => by rw [hhigher d (hbefore d hd)]; rfl⟩
  simp only [State.choose, hm, hfirst]

theorem State.choose_idle {s : State} (hm : (s.queue mqt).entries = []) (h : ∀ c, s.rotationWinner c = none) :
    s.choose = .idle := by
  simp only [State.choose, hm, h, Option.map_none, List.findSome?_cons, List.findSome?_nil]

/-! ### The opportunity -/

/-- Without a head that is to be checked, an opportunity makes no deferred check, whatever its order (R36). -/
theorem State.allDeferred_idle {s : State} (h : ∀ n, ¬s.checkable n) (order : List PortId) : s.allDeferred order = s := by
  have hsingle : order.foldl State.deferredCheck s = s := by
    induction order with
    | nil => rfl
    | cons n order ih => rw [List.foldl_cons, State.deferredCheck_idle (h n), ih]
  unfold State.allDeferred
  rw [hsingle]
  exact foldl_remainingChecks_idle fun n _ => h n

/-- A cell sent leaves its queue, and goes out as it was queued with its HCS put in (R111, R113). -/
theorem State.sendOut_eq {s : State} {q : QueueId} {e : Entry} {rest : List Entry} (h : (s.queue q).entries = e :: rest) :
    s.sendOut q e = State.setQueue
      { s with
        sched := { s.sched with cellsSent := s.sched.cellsSent + 1 }
        tout := some (e.cell.header ++ [hcsOf e.cell.header] ++ e.cell.payload) }
      q { s.queue q with entries := rest } := by
  have hframe : e.cell.frame = e.cell.header ++ [hcsOf e.cell.header] ++ e.cell.payload := by simp [Cell.frame]
  simp only [State.sendOut, State.dropHead, h, List.tail_cons, hframe]
  rfl

theorem idleCell_frame : idleCell.frame = [0x00, 0x08, 0x00, 0x00, 0x00, 0xB0] ++ List.replicate 58 0x00 := by
  have hheader : idleCell.header = [0x00, 0x08, 0x00, 0x00, 0x00] := rfl
  have hhcs : hcsOf [0x00, 0x08, 0x00, 0x00, 0x00] = 0xB0 := by decide +kernel
  rw [Cell.frame, hheader, hhcs]
  rfl

/-- Settles O30: without deferred checks the opportunity sends the choice, and each clause names what the choice is. -/
theorem toutSendsTheChosenCell : Obligations.ToutSendsTheChosenCell := by
  unfold Obligations.ToutSendsTheChosenCell
  intro order s hh hnone at_ candidate sent
  have hidle (n : PortId) : ¬s.checkable n := fun ⟨e, he, hm, hb⟩ => hnone n e he hm hb
  have hexec {x : Choice} (hx : s.choose = x) : exec (.toutOpportunity order) s = .next (s.sendChoice x) := by
    rw [exec_toutOpportunity order hh, State.allDeferred_idle hidle, hx]
  have hcandidate {c : ClassId} {i : Fin 5} (h : ∀ e, ¬candidate c i e) : s.candidate c i = none :=
    State.candidate_eq_none fun e he => h e (State.candidate_eq_some.1 he)
  refine ⟨fun e rest hes => (hexec (State.choose_management hes)).trans (congrArg _ (State.sendOut_eq hes)),
    fun hm => ⟨fun c k e rest hhigher hbefore hk hes => ?_, fun hno => ?_⟩⟩
  · have hwinner : s.rotationWinner c = some (s.rotation[c] + k, e) :=
      State.rotationWinner_first (fun j hj => hcandidate (hbefore j hj)) (State.candidate_eq_some.2 hk)
    have hchoose : s.choose = .rotation c (s.rotation[c] + k) e :=
      State.choose_rotation hm (fun d hd => State.rotationWinner_none fun i => hcandidate (hhigher d hd i)) hwinner
    rw [hexec hchoose]
    simp only [State.sendChoice, State.sendOut_eq (q := rotationQueue c (s.rotation[c] + k)) hes]
    rfl
  · rw [hexec (State.choose_idle hm fun c => State.rotationWinner_none fun i => hcandidate (hno c i))]
    simp only [State.sendChoice, idleCell_frame]
    rfl

end Sys2Proof.Machine
end

section
namespace Sys2Proof.Machine

/-! ## O33 and O42: the signal of a port, and its timers -/

/-! ### Shared operations on one port -/

section
variable (s : State) (n : PortId) (p : Port)

theorem State.countPort_setPort (f : PortCounters → PortCounters) :
    (s.setPort n p).countPort n f = s.setPort n { p with ctr := f p.ctr } := s.onPort_setPort n p _

/-- Leaving UP from a state that differs in the port alone (R126). -/
theorem State.leaveUp_setPort : (s.setPort n p).leaveUp n = s.atPort n p.leftUp (s.leaveUp n).queues s.handed := by
  rw [State.leaveUp_eq, State.leaveUp_eq, State.port_setPort_same, s.flushDrops_setPort, State.setPort_setPort,
    s.flushDrops_frame]
  rfl

/-- A port that leaves UP goes to its new state, and reports it (R126, R127). -/
theorem State.leaveFor_setPort_up {p : Port} (hu : p.state = .up) (x : PortState) :
    (s.setPort n p).leaveFor n x = s.atPort n { p.leftUp with state := x } (s.leaveUp n).queues
      (s.handed ++ linkReports n [x.code.setWidth 8]) := by
  have hstate : ((s.setPort n p).port n).state = .up := by rw [State.port_setPort_same, hu]
  simp only [State.leaveFor, hstate, State.leaveUp_setPort, State.atPort_movePort]

/-- A port that leaves ALIGNING goes to its new state, and reports it (R119, R127). -/
theorem State.leaveFor_setPort_aligning {p : Port} (ha : p.state = .aligning) (x : PortState) :
    (s.setPort n p).leaveFor n x = s.atPort n { stopAligning p with state := x } s.queues
      (s.handed ++ linkReports n [x.code.setWidth 8]) := by
  have hstate : ((s.setPort n p).port n).state = .aligning := by rw [State.port_setPort_same, ha]
  have hstop : s.setPort n (stopAligning p) = s.atPort n (stopAligning p) s.queues s.handed := rfl
  simp only [State.leaveFor, hstate, State.onPort_setPort, hstop, State.atPort_movePort]

/-- A port that does not align, or of a node that is not READY, stays as it is (R120). -/
theorem State.tryAlign_of_not {s : State} {n : PortId} (h : ¬((s.port n).aligns = true ∧ s.nodeState = .ready)) :
    s.tryAlign n = s := by
  refine if_neg fun ⟨hdown, hsignal, hready⟩ => h ⟨?_, hready⟩
  simp [Port.aligns, hdown, hsignal]

/-- What a state differs in from the one in which its port was UP: the port, the queues that were flushed, the reports. -/
theorem State.atPort_leftUp_frame (hs : List Handed) :
    let t := s.atPort n p (s.leaveUp n).queues hs
    t.port n = p ∧ (∀ m, m ≠ n → t.port m = s.port m) ∧ t.handed = hs ∧
      t = { s with ports := t.ports, queues := (s.leaveUp n).queues, handed := t.handed } :=
  ⟨s.port_atPort n p _ hs, fun _ hm => s.port_setPort_other p hm, rfl, rfl⟩

end

/-! ### The signal (R119, R120) -/

/-- A port that has lost its signal, before it leaves its state: an arrival that had begun is cut short (R119, R128). -/
def Port.signalLost (p : Port) (begun : Bool) : Port :=
  { p with
    signal := false
    ctr := { p.ctr with
      signalLosses := p.ctr.signalLosses + 1
      truncated := if begun = true ∧ p.signal = true ∧ p.state ≠ .off then p.ctr.truncated + 1 else p.ctr.truncated } }

section
variable {s : State} (hh : s.held = false) (n : PortId)
include hh

theorem exec_portSignalPresent :
    exec (.portSignalPresent n) s = .next ((s.setPort n { s.port n with signal := true }).tryAlign n) := by
  simp only [exec, execPortSignalPresent, hh, Bool.false_eq_true, if_false]
  rfl

/-- A port takes arrivals while its signal is present and it is not OFF (R128). -/
theorem State.portTakes_iff : s.portTakes n = true ↔ (s.port n).signal = true ∧ (s.port n).state ≠ .off := by
  simp [State.portTakes, hh, and_comm]

/-- A loss of signal is counted in any state, cuts short an arrival that the port was taking, and makes an ALIGNING or UP port
leave its state (R119). -/
theorem exec_portSignalLost (begun : Bool) :
    exec (.portSignalLost n begun) s = .next
      (if (s.port n).state = .aligning ∨ (s.port n).state = .up then
        (s.setPort n ((s.port n).signalLost begun)).leaveFor n .down
       else s.setPort n ((s.port n).signalLost begun)) := by
  have hcut : (begun && s.portTakes n) = true ↔ begun = true ∧ (s.port n).signal = true ∧ (s.port n).state ≠ .off := by
    rw [Bool.and_eq_true, State.portTakes_iff hh]
  have hlost : s.onPort n (fun p => { p with
      signal := false
      ctr := { p.ctr with
        signalLosses := p.ctr.signalLosses + 1
        truncated := if begun && s.portTakes n then p.ctr.truncated + 1 else p.ctr.truncated } }) =
      s.setPort n ((s.port n).signalLost begun) := by
    simp only [State.onPort, Port.signalLost, hcut]
  simp only [exec, execPortSignalLost, hh, Bool.false_eq_true, if_false, hlost]
  cases (s.port n).state <;> simp only [reduceCtorEq, or_self, or_true, true_or, if_true, if_false]

end

/-- Settles O33: a signal that comes lets a DOWN port align, and one that goes makes the port leave its state. -/
theorem portsFollowTheirSignal : Obligations.PortsFollowTheirSignal := by
  unfold Obligations.PortsFollowTheirSignal
  intro n begun s hh p change lost
  have hpresent := exec_portSignalPresent hh n
  have hlost := exec_portSignalLost hh n begun
  have haligns : { p with signal := true : Port }.aligns = true ↔ p.state = .down := by simp [Port.aligns]
  refine ⟨fun ⟨hdown, hready⟩ => ?_, fun hnot => ?_, fun hst => ?_, fun ha => ?_, fun hu => ?_⟩
  · refine hpresent.trans (congrArg _ ((s.atPort_tryAlign n _ s.queues s.handed hready).trans ?_))
    rw [if_pos (haligns.2 hdown)]
    rfl
  · refine hpresent.trans (congrArg _ (State.tryAlign_of_not fun ⟨ha, hready⟩ => hnot ⟨?_, hready⟩))
    rw [State.port_setPort_same] at ha
    exact haligns.1 ha
  · have hstays : ¬(p.state = .aligning ∨ p.state = .up) := by rcases hst with h | h <;> simp [h]
    rw [hlost, if_neg hstays]
    rfl
  · rw [hlost, if_pos (.inl ha), State.leaveFor_setPort_aligning (p := p.signalLost begun) s n ha]
    rfl
  · rw [hlost, if_pos (.inr hu), State.leaveFor_setPort_up (p := p.signalLost begun) s n hu]
    obtain ⟨hport, hothers, hhanded, hframe⟩ := s.atPort_leftUp_frame n
      { (p.signalLost begun).leftUp with state := .down } (s.handed ++ change 1)
    exact ⟨_, rfl, hport, hothers, hhanded, hframe⟩

/-! ### The timers (R121, R122, R125) -/

/-- A silence timeout takes a port that is UP through DOWN, where it is counted and may align (R125). -/
theorem exec_silenceTimeout {s : State} {n : PortId} (hh : s.held = false) (hu : (s.port n).state = .up)
    (ht : (s.port n).silenceTimer = true) :
    exec (.silenceTimeout n) s = .next
      (((s.leaveFor n .down).countPort n fun k => { k with silences := k.silences + 1 }).tryAlign n) :=
  if_pos ⟨hh, ht, hu⟩

/-- Settles O42: each expiry is of a timer that runs in its state; the silence timeout leaves UP and then tries to align. -/
theorem portTimersExpire : Obligations.PortTimersExpire := by
  unfold Obligations.PortTimersExpire
  intro n s hh p report
  refine ⟨fun ha ht => if_pos ⟨hh, ht, ha⟩, fun ha ht => if_pos ⟨hh, ht, ha⟩, fun hu ht => ?_⟩
  intro down aligns
  have hsame : s.setPort n p = s := s.eq_atPort n ▸ s.setPort_setPort n _ p
  have hdown : (s.leaveFor n .down).countPort n (fun k => { k with silences := k.silences + 1 }) =
      s.atPort n down (s.leaveUp n).queues (s.handed ++ linkReports n [1]) := by
    conv_lhs => rw [← hsame]
    rw [State.leaveFor_setPort_up s n hu, State.countPort, State.atPort_onPort]
    rfl
  have hexec := exec_silenceTimeout hh hu ht
  rw [hdown] at hexec
  by_cases hal : aligns
  · obtain ⟨hport, hothers, hhanded, hframe⟩ := s.atPort_leftUp_frame n down.aligned
      (s.handed ++ linkReports n [1] ++ linkReports n [2])
    rw [s.atPort_tryAlign n _ _ _ hal.2, if_pos (by simp [Port.aligns, down, hal.1])] at hexec
    exact ⟨_, hexec, fun _ => ⟨hport, hhanded.trans (List.append_assoc _ _ _)⟩, fun hno => absurd hal hno, hothers, hframe⟩
  · obtain ⟨hport, hothers, hhanded, hframe⟩ := s.atPort_leftUp_frame n down (s.handed ++ linkReports n [1])
    rw [State.tryAlign_of_not] at hexec
    · exact ⟨_, hexec, fun hyes => absurd hyes hal, fun _ => ⟨hport, hhanded⟩, hothers, hframe⟩
    · rw [State.port_atPort]
      exact fun ⟨ha, hready⟩ => hal ⟨(Bool.and_eq_true_iff.1 ha).2, hready⟩

end Sys2Proof.Machine
end

section
namespace Sys2Proof.Machine

/-! ## O34, O37 to O40: arrivals on a port -/

/-! ### Counted arrivals (R128) -/

/-- A port that has counted an arrival (R128). -/
def Port.counted (p : Port) : Port := { p with ctr := { p.ctr with arrivals := p.ctr.arrivals + 1 } }

section
variable (s : State) (n : PortId)

theorem State.portCounted_eq : s.portCounted n = s.setPort n (s.port n).counted := rfl

/-- An arrival that goes no further is counted under one more counter (R128). -/
theorem State.countPort_portCounted (f : PortCounters → PortCounters) : (s.portCounted n).countPort n f =
    s.setPort n { s.port n with ctr := f { (s.port n).ctr with arrivals := (s.port n).ctr.arrivals + 1 } } :=
  s.countPort_setPort n _ f

end

section
variable {s : State} {n : PortId} (ht : s.portTakes n = true)
include ht

theorem exec_portArrival (bytes : List Byte) : exec (.portArrival n bytes) s = .next (s.portArrive n bytes) := if_pos ht

/-- A well-formed cell is counted and handled by its kind (R129). -/
theorem exec_portArrival_wellFormed {bytes : List Byte} (hw : portWellFormed bytes = true) :
    exec (.portArrival n bytes) s = .next ((s.portCounted n).onPortCell n (cellOfBytes bytes)) := by
  rw [exec_portArrival ht, s.portArrive_of_wellFormed n hw]

/-- A well-formed LINK cell is counted and handled by its op (R129). -/
theorem exec_portArrival_link {bytes : List Byte} (hw : portWellFormed bytes = true)
    (hk : (cellOfBytes bytes).kind = .link) :
    exec (.portArrival n bytes) s = .next ((s.portCounted n).onLink n (cellOfBytes bytes)) := by
  rw [exec_portArrival_wellFormed ht hw]
  simp only [State.onPortCell, hk]

theorem exec_align : exec (.align n) s = .next ((s.portCounted n).onAlign n) := if_pos ht

theorem exec_alignAck (token : Byte) : exec (.alignAck n token) s = .next ((s.portCounted n).onAlignAck n token) := if_pos ht

theorem exec_credit (amount : Byte) : exec (.credit n amount) s = .next ((s.portCounted n).onCredit n amount) := if_pos ht

end

/-! ### The four checks (R128, R129) -/

theorem portWellFormed_iff (bytes : List Byte) : portWellFormed bytes = true ↔
    (bytes.length = 64 ∧ byteAt bytes 5 = hcsOf (bytes.take 5)) ∧ (cellOfBytes bytes).len.toNat ≤ 58 ∧
      tagKindWrong (cellOfBytes bytes) = false := by
  simp only [portWellFormed, Bool.and_eq_true, decide_eq_true_eq, hcsMatches_iff, Bool.not_eq_true', and_assoc]

/-- The tag-and-kind check speaks of DATA and MGMT cells alone (R96). -/
theorem tagKindWrong_of_other {c : Cell} (hk : c.kind = .idle ∨ c.kind = .link) : tagKindWrong c = false := by
  rcases hk with hk | hk <;> simp [tagKindWrong, hk]

theorem State.onLink_unknown (s : State) (n : PortId) {c : Cell} (h : c.tag = 0 ∨ 4 ≤ c.tag.toNat) :
    s.onLink n c = s.linkError n := by
  have hop (op : Tag) (h1 : op.toNat ≠ 0) (h4 : op.toNat < 4) : c.tag ≠ op := by
    rintro rfl
    rcases h with h | h
    · exact h1 (congrArg BitVec.toNat h)
    · omega
  rw [State.onLink, if_neg (hop _ (by decide) (by decide)), if_neg (hop _ (by decide) (by decide)),
    if_neg (hop _ (by decide) (by decide))]

/-- Settles O34: the checks are peeled off the arrival one by one; a cell that passes them is handled by its kind. -/
theorem portReceiveChecks : Obligations.PortReceiveChecks := by
  unfold Obligations.PortReceiveChecks
  intro n bytes s hh hoff hsignal c k counted framed
  have ht : s.portTakes n = true := (State.portTakes_iff hh n).2 ⟨hsignal, hoff⟩
  have hcount (f : PortCounters → PortCounters) : Host.Outcome.next ((s.portCounted n).countPort n f) = counted (f k) :=
    congrArg _ (s.countPort_portCounted n f)
  have hcs (h : framed) : ¬(!hcsMatches bytes) = true := by simp [(hcsMatches_iff bytes).2 h.2]
  have hpass (h : framed) (hl : c.len.toNat ≤ 58) (hk : c.kind = .idle ∨ c.kind = .link) : portWellFormed bytes = true :=
    (portWellFormed_iff bytes).2 ⟨h, hl, tagKindWrong_of_other hk⟩
  refine ⟨fun hlen => ?_, fun hlen hne => ?_, fun h hl => ?_, fun h hl htk => ?_, fun h hl hk => ?_, fun h hl hk hop => ?_⟩
  · rw [exec_portArrival ht, State.portArrive, if_pos hlen]
    exact hcount _
  · rw [exec_portArrival ht, State.portArrive, if_neg (not_not.2 hlen), if_pos (by simpa [hcsMatches] using hne)]
    exact hcount _
  · rw [exec_portArrival ht, State.portArrive, if_neg (not_not.2 h.1), if_neg (hcs h), if_pos hl]
    exact hcount _
  · rw [exec_portArrival ht, State.portArrive, if_neg (not_not.2 h.1), if_neg (hcs h), if_neg (Nat.not_lt.2 hl),
      if_pos ((tagKindWrong_iff c).2 htk)]
    exact hcount _
  · rw [exec_portArrival_wellFormed ht (hpass h hl (.inl hk)), State.onPortCell,
      show (cellOfBytes bytes).kind = .idle from hk]
    exact hcount _
  · rw [exec_portArrival_link ht (hpass h hl (.inr hk)) hk, State.onLink_unknown _ n hop]
    exact hcount _

/-! ### MGMT cells (R131), and cells for a port that is not UP -/

/-- Settles O37: the port state, and for a MGMT cell in UP the port and LMGT, decide what the counted cell comes to. -/
theorem portManagementIsLocal : Obligations.PortManagementIsLocal := by
  unfold Obligations.PortManagementIsLocal
  rintro n bytes c s ⟨ht, hw, rfl⟩ p k
  have hexec := exec_portArrival_wellFormed ht hw
  have hstate : ((s.portCounted n).port n).state = p.state := by rw [s.portCounted_eq, State.port_setPort_same]; rfl
  have hmgmt (hk : (cellOfBytes bytes).kind = .mgmt) (hup : p.state = .up) :
      exec (.portArrival n bytes) s = .next ((s.portCounted n).onPortMgmt n (cellOfBytes bytes)) := by
    simp only [hexec, State.onPortCell, hk, hstate, hup, if_true]
  have hcount (f : PortCounters → PortCounters) :
      (s.portCounted n).countPort n f = s.setPort n { p with ctr := f k } := s.countPort_portCounted n f
  refine ⟨fun hk hup => ?_, fun hk hup h0 hl => ?_, fun hk hup href => ?_⟩
  · have hnot : (s.portCounted n).onPortCell n (cellOfBytes bytes) = (s.portCounted n).notUp n := by
      rcases hk with hk | hk <;> simp only [State.onPortCell, hk, hstate, hup, if_false]
    rw [hexec, hnot]
    exact congrArg _ (hcount _)
  · rw [hmgmt hk hup, State.onPortMgmt, if_pos ⟨h0, hl⟩, hcount]
  · have hrefused : ¬(n = 0 ∧ (s.portCounted n).agent.lmgt = true) :=
      fun ⟨h0, hl⟩ => href.elim (fun h => h h0) fun h => Bool.false_ne_true (h.symm.trans hl)
    rw [hmgmt hk hup, State.onPortMgmt, if_neg hrefused, hcount]

/-! ### LINK cells (R123, R124, R132) -/

section
variable (s : State) (n : PortId) {p : Port}

theorem State.linkIgnored_setPort (p : Port) : (s.setPort n p).linkIgnored n =
    s.setPort n { p with ctr := { p.ctr with linkIgnored := p.ctr.linkIgnored + 1 } } := s.countPort_setPort n p _

theorem State.linkError_setPort (p : Port) : (s.setPort n p).linkError n =
    s.setPort n { p with ctr := { p.ctr with linkErrors := p.ctr.linkErrors + 1 } } := s.countPort_setPort n p _

theorem State.atPort_enterAligning (p : Port) (qs : Vector Queue 15) (hs : List Handed) :
    (s.atPort n p qs hs).enterAligning n = s.atPort n p.aligned qs (hs ++ linkReports n [2]) := by
  rw [State.enterAligning_eq, State.port_atPort, State.atPort_setPort]
  rfl

/-- An ALIGN in UP: the port leaves UP, counts the peer restart and enters ALIGNING (R124, R126). -/
theorem State.onAlign_setPort_up (hu : p.state = .up) : (s.setPort n p).onAlign n = s.atPort n
    { p.leftUp with ctr := { p.leftUp.ctr with peerRestarts := p.leftUp.ctr.peerRestarts + 1 } : Port }.aligned
    (s.leaveUp n).queues (s.handed ++ linkReports n [2]) := by
  have hstate : ((s.setPort n p).port n).state = .up := by rw [State.port_setPort_same, hu]
  simp only [State.onAlign, hstate, State.leaveUp_setPort, State.countPort, State.atPort_onPort,
    State.atPort_enterAligning]

/-- An ALIGN in ALIGNING is answered with one at once (R124). -/
theorem State.onAlign_setPort_aligning (ha : p.state = .aligning) : (s.setPort n p).onAlign n =
    s.setPort n { p with alignPending := true, ctr := { p.ctr with linkIgnored := p.ctr.linkIgnored + 1 } } := by
  have hstate : ((s.setPort n p).port n).state = .aligning := by rw [State.port_setPort_same, ha]
  simp only [State.onAlign, hstate, State.onPort_setPort, State.linkIgnored_setPort]

theorem State.onAlign_setPort_down (hd : p.state = .down) : (s.setPort n p).onAlign n =
    s.setPort n { p with ctr := { p.ctr with linkIgnored := p.ctr.linkIgnored + 1 } } := by
  have hstate : ((s.setPort n p).port n).state = .down := by rw [State.port_setPort_same, hd]
  simp only [State.onAlign, hstate, State.linkIgnored_setPort]

/-- An ALIGN-ACK with the port's token makes an ALIGNING port UP (R123). -/
theorem State.onAlignAck_setPort_matching {token : Byte} (ha : p.state = .aligning ∧ token = p.token) :
    (s.setPort n p).onAlignAck n token =
      s.atPort n { stopAligning p with silenceTimer := true, dropCredit := 0, addCredits := 0, state := .up } s.queues
        (s.handed ++ linkReports n [3]) := by
  rw [State.onAlignAck, State.port_setPort_same, if_pos ha, State.onPort_setPort]
  exact s.atPort_movePort n _ s.queues s.handed .up

theorem State.onAlignAck_setPort_other {token : Byte} (ha : ¬(p.state = .aligning ∧ token = p.token)) :
    (s.setPort n p).onAlignAck n token =
      s.setPort n { p with ctr := { p.ctr with linkIgnored := p.ctr.linkIgnored + 1 } } := by
  rw [State.onAlignAck, State.port_setPort_same, if_neg ha, State.linkIgnored_setPort]

/-- The arrival of a LINK cell with each op (R129). -/
theorem State.onLink_ops (c : Cell) :
    (c.tag = 1 → s.onLink n c = s.onAlign n) ∧ (c.tag = 2 → s.onLink n c = s.onAlignAck n c.seq) ∧
      (c.tag = 3 → s.onLink n c = s.onCredit n c.seq) := by
  refine ⟨fun h => if_pos h, fun h => ?_, fun h => ?_⟩ <;> rw [State.onLink, h]
  · exact (if_neg (by decide)).trans (if_pos rfl)
  · exact (if_neg (by decide)).trans ((if_neg (by decide)).trans (if_pos rfl))

end

/-- Settles O38: the counted ALIGN meets the port state, and the bytes of an ALIGN come to the same. -/
theorem alignRestartsTheLink : Obligations.AlignRestartsTheLink := by
  unfold Obligations.AlignRestartsTheLink
  intro n s hh hsignal p k
  have htakes (hoff : p.state ≠ .off) : s.portTakes n = true := (State.portTakes_iff hh n).2 ⟨hsignal, hoff⟩
  have hexec {x : PortState} (hx : p.state = x) (hoff : x ≠ .off) :
      exec (.align n) s = .next ((s.setPort n p.counted).onAlign n) := exec_align (htakes (hx ▸ hoff))
  refine ⟨fun ha => ?_, fun hd => ?_, fun hu => ?_, fun hoff bytes hw hk htag => ?_⟩
  · rw [hexec ha (by decide), s.onAlign_setPort_aligning n (p := p.counted) ha]
    rfl
  · rw [hexec hd (by decide), s.onAlign_setPort_down n (p := p.counted) hd]
    rfl
  · rw [hexec hu (by decide), s.onAlign_setPort_up n (p := p.counted) hu]
    obtain ⟨hport, hothers, hhanded, hframe⟩ := s.atPort_leftUp_frame n
      { p.counted.leftUp with
        ctr := { p.counted.leftUp.ctr with peerRestarts := p.counted.leftUp.ctr.peerRestarts + 1 } : Port }.aligned
      (s.handed ++ linkReports n [2])
    exact ⟨_, rfl, hport, hothers, hhanded, hframe⟩
  · obtain ⟨halign, -, -⟩ := (s.portCounted n).onLink_ops n (cellOfBytes bytes)
    rw [exec_portArrival_link (htakes hoff) hw hk, halign htag, exec_align (htakes hoff)]

/-- Settles O39: the state and the token decide what the counted ALIGN-ACK does, and its bytes come to the same. -/
theorem alignAckMakesThePortUp : Obligations.AlignAckMakesThePortUp := by
  unfold Obligations.AlignAckMakesThePortUp
  intro n token s hh hsignal hoff p k
  have htakes : s.portTakes n = true := (State.portTakes_iff hh n).2 ⟨hsignal, hoff⟩
  have hexec : exec (.alignAck n token) s = .next ((s.setPort n p.counted).onAlignAck n token) :=
    exec_alignAck htakes token
  refine ⟨fun ha htok => ?_, fun hno => ?_, fun bytes hw hk htag hseq => ?_⟩
  · exact hexec.trans (congrArg _ (s.onAlignAck_setPort_matching n (p := p.counted) ⟨ha, htok⟩))
  · exact hexec.trans (congrArg _ (s.onAlignAck_setPort_other n (p := p.counted) hno))
  · obtain ⟨-, hack, -⟩ := (s.portCounted n).onLink_ops n (cellOfBytes bytes)
    rw [exec_portArrival_link htakes hw hk, hack htag, hseq, exec_alignAck htakes]

/-- Settles O40: the state and the amount decide what the counted CREDIT does, and its bytes come to the same. -/
theorem creditRaisesDropCredit : Obligations.CreditRaisesDropCredit := by
  unfold Obligations.CreditRaisesDropCredit
  intro n amount s hh hsignal hoff p k
  have htakes : s.portTakes n = true := (State.portTakes_iff hh n).2 ⟨hsignal, hoff⟩
  have hexec {t : State} (ht : (s.setPort n p.counted).onCredit n amount = t) : exec (.credit n amount) s = .next t :=
    (exec_credit htakes amount).trans (congrArg _ ht)
  have hport : (s.setPort n p.counted).port n = p.counted := s.port_setPort_same n _
  have hstate : p.counted.state = p.state := rfl
  have hdrop : p.counted.dropCredit = p.dropCredit := rfl
  have hne (h1 : 1 ≤ amount.toNat) : amount ≠ 0 := by rintro rfl; exact absurd h1 (by decide)
  refine ⟨fun hu h1 hle => hexec ?_, fun hu h1 hgt => hexec ?_, fun hu h0 => hexec ?_, fun hu => hexec ?_,
    fun bytes hw hk htag hseq => ?_⟩
  · rw [State.onCredit, hport, hstate, hdrop, if_pos hu, if_neg (hne h1), if_neg (Nat.not_lt.2 hle), State.onPort_setPort]
    rfl
  · rw [State.onCredit, hport, hstate, hdrop, if_pos hu, if_neg (hne h1), if_pos hgt, State.onPort_setPort,
      State.linkError_setPort]
    rfl
  · rw [State.onCredit, hport, hstate, if_pos hu, if_pos h0, State.linkError_setPort]
    rfl
  · rw [State.onCredit, hport, hstate, if_neg hu, State.linkIgnored_setPort]
    rfl
  · obtain ⟨-, -, hcredit⟩ := (s.portCounted n).onLink_ops n (cellOfBytes bytes)
    rw [exec_portArrival_link htakes hw hk, hcredit htag, hseq, exec_credit htakes]

end Sys2Proof.Machine
end

section
namespace Sys2Proof.Machine

/-! ## O41: what a port sends at an opportunity -/

section
variable {s : State} {n : PortId}

/-- A port that is not OFF has opportunities (R133). -/
theorem exec_portOpportunity (hh : s.held = false) (hoff : (s.port n).state ≠ .off) :
    exec (.portOpportunity n) s = .next (s.portOpportunity n) := if_neg (by simp [hh, hoff])

/-- A pending ALIGN goes out first, with the port's token (R121, R133). -/
theorem State.portOpportunity_align (h : (s.port n).alignPending = true) : s.portOpportunity n = s.setPort n
    { s.port n with
      alignPending := false
      ctr := { (s.port n).ctr with alignSent := (s.port n).ctr.alignSent + 1 }
      sending := some (linkCell opAlign (s.port n).token).frame } := by
  rw [State.portOpportunity, if_pos h]
  exact s.onPort_setPort n _ _

/-- A credit is granted when there is something to grant (R118, R133). -/
theorem State.portOpportunity_grant (ha : (s.port n).alignPending = false) (hg : 0 < s.grantable n) :
    s.portOpportunity n = s.setPort n
      { s.port n with
        addCredits := (s.port n).addCredits + s.grantable n
        ctr := { (s.port n).ctr with
          creditSent := (s.port n).ctr.creditSent + 1
          creditsGranted := (s.port n).ctr.creditsGranted + BitVec.ofNat 32 (s.grantable n) }
        sending := some (linkCell opCredit (BitVec.ofNat 8 (s.grantable n))).frame } := by
  rw [State.portOpportunity, if_neg (by simp [ha]), if_pos hg, State.grantCredit]
  exact s.onPort_setPort n _ _

/-- A cell sent to the device leaves its queue and spends a drop credit (R135). -/
theorem State.sendHead_eq {q : QueueId} {e : Entry} {rest : List Entry} (h : (s.queue q).entries = e :: rest) :
    s.sendHead n q e = State.setPort (s.setQueue q { s.queue q with entries := rest }) n
      { s.port n with
        dropCredit := (s.port n).dropCredit - 1
        ctr := { (s.port n).ctr with cellsSent := (s.port n).ctr.cellsSent + 1 }
        sending := some e.cell.frame } := by
  simp only [State.sendHead, State.dropHead, h, List.tail_cons]
  exact State.onPort_setPort _ n _ _

theorem State.sendsLocal_iff : s.sendsLocal n = true ↔
    n = 0 ∧ s.agent.lmgt = true ∧ (s.port n).state = .up ∧ 0 < (s.port n).dropCredit := by
  simp only [State.sendsLocal, Bool.and_eq_true, decide_eq_true_eq, and_assoc]

section
variable (ha : (s.port n).alignPending = false) (hg : ¬0 < s.grantable n)
include ha hg

/-- The head of MQL goes out where port 0 may send one (R133). -/
theorem State.portOpportunity_local {e : Entry} {rest : List Entry} (hl : s.sendsLocal n = true)
    (hm : (s.queue mql).entries = e :: rest) : s.portOpportunity n = s.sendHead n mql e := by
  simp only [State.portOpportunity, ha, Bool.false_eq_true, if_false, hg, hl, hm]

/-- The head of the drop queue goes out against drop credit, where MQL sends none (R133, R135). -/
theorem State.portOpportunity_drop {e : Entry} {rest : List Entry}
    (hl : s.sendsLocal n = true → (s.queue mql).entries = []) (hu : (s.port n).state = .up)
    (hc : 0 < (s.port n).dropCredit) (hd : (s.queue (dq n)).entries = e :: rest) :
    s.portOpportunity n = s.sendHead n (dq n) e := by
  cases hsends : s.sendsLocal n with
  | true =>
    simp only [State.portOpportunity, ha, Bool.false_eq_true, if_false, hg, hsends, hl hsends, hu, hc, decide_true,
      Bool.and_self, hd]
  | false =>
    simp only [State.portOpportunity, ha, Bool.false_eq_true, if_false, hg, hsends, hu, hc, decide_true, Bool.and_self, hd]

/-- An IDLE cell goes out where neither queue sends a cell (R112, R133). -/
theorem State.portOpportunity_idle (hl : s.sendsLocal n = true → (s.queue mql).entries = [])
    (hd : (s.port n).state = .up ∧ 0 < (s.port n).dropCredit → (s.queue (dq n)).entries = []) :
    s.portOpportunity n = s.setPort n
      { s.port n with
        ctr := { (s.port n).ctr with idlesSent := (s.port n).ctr.idlesSent + 1 }
        sending := some idleCell.frame } := by
  have hdrop : (decide ((s.port n).state = .up) && decide (0 < (s.port n).dropCredit)) = true →
      (s.queue (dq n)).entries = [] := fun h => hd (by simpa using h)
  unfold State.portOpportunity
  dsimp only
  rw [if_neg (by simp [ha]), if_neg hg]
  split
  · rename_i hsends hm
    cases (hl hsends).symm.trans hm
  · split
    · rename_i hdelivers hm
      cases (hdrop hdelivers).symm.trans hm
    · exact s.onPort_setPort n _ _

end

end

/-- Settles O41: the kinds of cell are looked for in their order, and each clause says why those before do not apply. -/
theorem portSendsInOrder : Obligations.PortSendsInOrder := by
  unfold Obligations.PortSendsInOrder
  intro n s hh hoff p link amount grants delivers fromHead
  have hexec {t : State} (ht : s.portOpportunity n = t) : exec (.portOpportunity n) s = .next t :=
    (exec_portOpportunity hh hoff).trans (congrArg _ ht)
  refine ⟨fun halign => hexec (State.portOpportunity_align halign), fun halign => ⟨fun hg => ?_, fun hg => ?_⟩⟩
  · obtain ⟨hup, hpos⟩ := hg
    have hamount : s.grantable n = amount := if_pos hup
    rw [hexec (State.portOpportunity_grant halign (hamount ▸ hpos)), hamount]
    rfl
  · have hnone : ¬0 < s.grantable n := by
      intro h
      by_cases hup : p.state = .up
      · exact hg ⟨hup, (show s.grantable n = amount from if_pos hup) ▸ h⟩
      · exact absurd h (by rw [State.grantable, if_neg hup]; exact Nat.lt_irrefl 0)
    have hlocal (hno : delivers → n ≠ 0 ∨ s.agent.lmgt = false ∨ (s.queue mql).entries = []) :
        s.sendsLocal n = true → (s.queue mql).entries = [] := by
      intro h
      obtain ⟨h0, hl, hup, hc⟩ := State.sendsLocal_iff.1 h
      simpa [h0, hl] using hno ⟨hup, hc⟩
    refine ⟨fun e rest h0 hl ⟨hup, hc⟩ hes => hexec ?_, fun e rest hno ⟨hup, hc⟩ hes => hexec ?_, fun hno => hexec ?_⟩
    · exact (State.portOpportunity_local halign hnone (State.sendsLocal_iff.2 ⟨h0, hl, hup, hc⟩) hes).trans
        (State.sendHead_eq hes)
    · exact (State.portOpportunity_drop halign hnone (hlocal fun _ => hno) hup hc hes).trans (State.sendHead_eq hes)
    · rw [State.portOpportunity_idle halign hnone (hlocal fun hd => (hno hd).2) fun hd => (hno hd).1, idleCell_frame]

end Sys2Proof.Machine
end

section
namespace Sys2Proof.Machine

/-! ## O43: the checks of every request (R147) -/

/-- Each request command takes the requests of its own code, which the catalogue holds (R151). -/
theorem requestCommands_take :
    ∀ p ∈ requestCommands, catalogue.contains p.2 = true ∧
      ∃ handler, ∀ s, exec p.1 s = .next (s.takeRequest (isCode p.2) handler) := by
  simp only [requestCommands, List.forall_mem_cons]
  refine ⟨?_, ?_, ?_, ?_, ?_, ?_, ?_, ?_, ?_, ?_, ?_, ?_, ?_, ?_, ?_, ?_, ?_, ?_, ?_, ?_, List.forall_mem_nil _⟩
  all_goals exact ⟨rfl, _, fun _ => rfl⟩

/-- The catalogue lists the codes of the request commands, and no others (R151). -/
theorem catalogue_eq_commands : catalogue = requestCommands.map Prod.snd := rfl

/-- Which codes of the catalogue need the lease on every node, by their ranges (R151). -/
theorem leaseCodes_contains_command : ∀ p ∈ requestCommands, (leaseCodes.contains p.2 = true ↔
    0x10 ≤ p.2.toNat ∧ p.2.toNat ≤ 0x15 ∨ 0x20 ≤ p.2.toNat ∧ p.2.toNat ≤ 0x23) := by decide

/-- No request outside the catalogue needs the lease (R151). -/
theorem State.needsLease_unknown (s : State) {code : Byte} (h : catalogue.contains code = false) :
    s.needsLease code = false := by
  have hsub : ∀ c ∈ (0x16 : Byte) :: leaseCodes, catalogue.contains c = true := by decide
  have hout : code ∉ (0x16 : Byte) :: leaseCodes := fun hc => Bool.false_ne_true (h.symm.trans (hsub code hc))
  rw [List.mem_cons, not_or] at hout
  rw [State.needsLease, decide_eq_false hout.1, List.contains_eq_mem, decide_eq_false hout.2]
  rfl

theorem State.accessRefused_iff (s : State) (o : Origin) (code : Byte) : s.accessRefused o code = true ↔
    s.agent.address = none ∧ o ≠ .localMgr ∧ code ≠ 0x01 ∧ code ≠ 0x16 := by
  simp only [State.accessRefused, Bool.and_eq_true, decide_eq_true_eq, Option.isNone_iff_eq_none, and_assoc]

theorem Cell.bodyMisfits_iff (c : Cell) : c.bodyMisfits = true ↔ 50 < c.bodyLen ∨ c.len.toNat < 8 + c.bodyLen := by
  simp only [Cell.bodyMisfits, Bool.or_eq_true, decide_eq_true_eq]

/-! ### A request that is answered without an effect, by a check or by its block -/

section
variable {i : Instr} {code : Byte} {mine : Byte → Bool} {handler : Request → State → State × Reply} {s : State}
  {m : HandCell} {rest : List HandCell}

/-- A request whose handling changes nothing is served without an effect. -/
theorem serves_handled (he : exec i s = .next (s.takeRequest mine handler)) (hm : mine code = true)
    (ht : Takes s m rest code) {st : Status} {body : List Byte}
    (hh : (s.entered m rest).handled m.cell.bodyMisfits m.request handler = (s.entered m rest, .answer st body)) :
    Serves i s (s.needsLease code) id m.request st body := by
  obtain ⟨x, hx, hseq, -⟩ := s.entered_entry m rest
  have hstate := takeRequest_served_eq (effect := id) ht hm hh (s.entered_hands m rest)
  have hserved := (takeRequest_answered ht hm hh ⟨x, hx, hseq⟩).of_sameBlocks (s.entered_sameBlocks m rest)
  exact ⟨he.trans (congrArg _ hstate), hstate ▸ hserved⟩

end

/-- Entering a request changes nothing that the checks of R147 look at. -/
theorem State.entered_needsLease (s : State) (m : HandCell) (rest : List HandCell) (code : Byte) :
    (s.entered m rest).needsLease code = s.needsLease code := by rw [State.needsLease, State.entered_address]; rfl

theorem State.entered_accessRefused (s : State) (m : HandCell) (rest : List HandCell) (o : Origin) (code : Byte) :
    (s.entered m rest).accessRefused o code = s.accessRefused o code := by
  rw [State.accessRefused, State.entered_address]; rfl

/-! ### The answers of the checks, in their order -/

section
variable (s : State) (r : Request) (handler : Request → State → State × Reply)

theorem State.handled_malformed : s.handled true r handler = (s, .answer .malformed []) := rfl

theorem State.handled_unknown (h : catalogue.contains r.code = false) :
    s.handled false r handler = (s, .answer .unknown []) := by
  simp only [State.handled, h, Bool.false_eq_true, if_false, Bool.not_false, if_true]

variable (hcat : catalogue.contains r.code = true)
include hcat

theorem State.handled_refused (h : s.accessRefused r.origin r.code = true) :
    s.handled false r handler = (s, .answer .refused []) := by
  simp only [State.handled, hcat, h, Bool.false_eq_true, if_false, Bool.not_true, if_true]

theorem State.handled_notHolder (ha : s.accessRefused r.origin r.code = false) (hn : s.needsLease r.code = true)
    (hl : s.lease.holder ≠ some r.origin) :
    s.handled false r handler = (s, .answer .notHolder [originCode s.lease.holder]) := by
  simp only [State.handled, hcat, ha, hn, hl, Bool.false_eq_true, if_false, Bool.not_true, ne_eq, not_false_eq_true,
    and_self, if_true]

end

theorem Takes.code_eq {s : State} {m : HandCell} {rest : List HandCell} {code : Byte} (h : Takes s m rest code) :
    m.cell.code = code := by
  obtain ⟨-, -, -, hcode⟩ := h
  exact hcode

/-- Settles O43: each answer is that of the first check that fails, of whatever command takes the request. -/
theorem requestsAreTurnedAway : Obligations.RequestsAreTurnedAway := by
  unfold Obligations.RequestsAreTurnedAway
  intro m rest s r misfit
  have hmisfit : m.cell.bodyMisfits = true ↔ misfit := m.cell.bodyMisfits_iff
  refine ⟨fun i code hi ht => ?_, fun hout ht => ?_⟩
  · intro leased barred
    obtain ⟨hcat, handler, hexec⟩ := requestCommands_take (i, code) hi
    obtain rfl := ht.code_eq
    have hleased : s.needsLease m.cell.code = leased := by
      have hranges := leaseCodes_contains_command (i, m.cell.code) hi
      rw [Bool.eq_iff_iff, State.needsLease, Bool.or_eq_true, hranges, Bool.and_eq_true, decide_eq_true_eq,
        decide_eq_true_eq, Option.isSome_iff_ne_none, or_assoc]
    have hbarred : s.accessRefused m.origin m.cell.code = true ↔ barred := s.accessRefused_iff m.origin m.cell.code
    have turned {st : Status} {body : List Byte} (hh : (s.entered m rest).handled m.cell.bodyMisfits m.request handler =
        (s.entered m rest, .answer st body)) : Serves i s leased id r st body :=
      hleased ▸ serves_handled (hexec s) (decide_eq_true rfl) ht hh
    refine ⟨fun hbad => turned ?_, fun hfit hno => turned ?_, fun hfit hok hneeds hl => turned ?_⟩
    · rw [hmisfit.2 hbad]
      exact State.handled_malformed _ _ _
    all_goals rw [eq_false_of_ne_true fun h => hfit (hmisfit.1 h)]
    · exact State.handled_refused _ _ _ hcat ((s.entered_accessRefused m rest _ _).trans (hbarred.2 hno))
    · have hanswer := State.handled_notHolder (s.entered m rest) m.request handler hcat
        ((s.entered_accessRefused m rest _ _).trans (eq_false_of_ne_true fun h => hok (hbarred.1 h)))
        ((s.entered_needsLease m rest _).trans (hleased.trans hneeds)) (by rw [s.entered_lease m rest]; exact hl)
      rw [hanswer, s.entered_lease m rest]
      cases s.lease.holder with
      | none => rfl
      | some o => cases o <;> rfl
  · have hcat : catalogue.contains m.cell.code = false := by
      rw [catalogue_eq_commands, List.contains_eq_mem, decide_eq_false_iff_not, List.mem_map]
      exact fun ⟨p, hp, he⟩ => hout p hp he
    have hmine : (fun b => !catalogue.contains b) m.cell.code = true := congrArg not hcat
    have turned {st : Status} {body : List Byte} (hh : (s.entered m rest).handled m.cell.bodyMisfits m.request
        (fun _ t => (t, .answer .unknown [])) = (s.entered m rest, .answer st body)) :
        Serves .unknownRequest s false id r st body :=
      s.needsLease_unknown hcat ▸ serves_handled rfl hmine ht hh
    refine ⟨fun hbad => turned ?_, fun hfit => turned ?_⟩
    · rw [hmisfit.2 hbad]
      exact State.handled_malformed _ _ _
    · rw [eq_false_of_ne_true fun h => hfit (hmisfit.1 h)]
      exact State.handled_unknown _ _ _ hcat

end Sys2Proof.Machine
end

section
namespace Sys2Proof.Machine

/-! ## O44: NODE_QUERY (R153) -/

theorem handleNodeQuery_malformed {r : Request} (s : State) (h : r.body ≠ []) : handleNodeQuery r s = malformed s :=
  if_pos h

theorem handleNodeQuery_body {r : Request} (s : State) (h : r.body = []) :
    handleNodeQuery r s = (s.readLease.1, .answer .ok (s.readLease.1.nodeQueryBody s.readLease.2)) :=
  if_neg (not_not.2 h)

/-! ### The lease timer, read (R166) -/

theorem State.readLease_idle {s : State} (h : ∀ o n, s.lease ≠ .held o n) : s.readLease = (s, 0) := by
  unfold State.readLease
  split
  · rename_i o n hl
    exact absurd hl (h o n)
  · rfl

theorem State.readLease_held {s : State} {o : Origin} {n : Nat} (h : s.lease = .held o n) :
    s.readLease =
      ({ s with lease := .held o (n - Config.elapsed s.draws % n), draws := s.draws + 1 },
        n - Config.elapsed s.draws % n) := by
  simp only [State.readLease, h]

/-- The time read of a running timer is at least 1 second, and no more than was last known (R166, log entry 8). -/
theorem secondsLeft_bounds {n : Nat} (k : Nat) (h : 1 ≤ n) : 1 ≤ n - k % n ∧ n - k % n ≤ n := by
  have := Nat.mod_lt k h
  omega

/-! ### The body (R153, R180) -/

theorem deliveryState_code (destination : Option Origin) (n : Notices) :
    (deliveryState destination n).code =
      if destination = none then 3 else if n.unreachable = true then 2
      else if n.oldestAwaiting = true then 1 else 0 := by
  cases destination with
  | none => rfl
  | some o =>
    simp only [deliveryState, reduceCtorEq, if_false]
    split_ifs <;> rfl

theorem Notices.oldestAwaiting_iff (n : Notices) :
    n.oldestAwaiting = true ↔ ∃ e, n.queue.head? = some e ∧ e.awaiting = true := by
  cases h : n.queue.head? <;> simp [Notices.oldestAwaiting, h]

theorem State.nodeQueryBody_entered (s : State) (m : HandCell) (rest : List HandCell) (seconds : Nat) :
    (s.entered m rest).nodeQueryBody seconds = s.nodeQueryBody seconds := by
  rw [s.entered_sameBlocks m rest]; rfl

/-- Of the lease the answer gives the holder alone, and the time as it was read (R153). -/
theorem State.nodeQueryBody_leaseRead {s : State} {o : Origin} {n : Nat} (h : s.lease = .held o n) (left draws seconds : Nat) :
    State.nodeQueryBody { s with lease := .held o left, draws := draws } seconds = s.nodeQueryBody seconds := by
  simp only [State.nodeQueryBody, h]
  rfl

/-- Settles O44: the handler's answer, field by field, in the state with the request entered and the timer read. -/
theorem nodeQueryReadsTheNode : Obligations.NodeQueryReadsTheNode := by
  unfold Obligations.NodeQueryReadsTheNode
  intro m rest s ht hr bank port body
  have hentered := s.entered_sameBlocks m rest
  have hbody (k : Nat) : s.nodeQueryBody k = body k := by
    have hdelivery := deliveryState_code s.agent.settings.destination s.notices
    simp only [Notices.oldestAwaiting_iff] at hdelivery
    simp only [State.nodeQueryBody, hdelivery]
    rfl
  have served {effect : State → State} {answer : Status} {bytes : List Byte}
      (hh : handleNodeQuery m.request (s.entered m rest) = (effect (s.entered m rest), .answer answer bytes))
      (hs : SameBlocks (effect s) (effect (s.entered m rest)))
      (hk : (effect (s.entered m rest)).agent = (s.entered m rest).agent) :
      Serves .nodeQuery s false effect m.request answer bytes :=
    serves_effect rfl rfl (s.needsLease_reading rfl (by decide)) ht hr hh hs (.of_eq hk)
  refine ⟨fun k => rfl, fun hb => served (handleNodeQuery_malformed _ hb) hentered rfl, fun hb hidle => ?_,
    fun hb o n hl hn => ?_⟩
  · refine served ?_ hentered rfl
    rw [handleNodeQuery_body _ hb, State.readLease_idle (by rw [s.entered_lease m rest]; exact hidle), ← hbody,
      State.nodeQueryBody_entered]
    rfl
  · obtain ⟨hlow, hhigh⟩ := secondsLeft_bounds (Config.elapsed (s.entered m rest).draws) hn
    have hlease := (s.entered_lease m rest).trans hl
    refine ⟨_, hlow, hhigh, served (effect := fun u => { u with lease := .held o _, draws := u.draws + 1 }) ?_ ?_ rfl⟩
    · rw [handleNodeQuery_body _ hb, State.readLease_held hlease, State.nodeQueryBody_leaseRead hlease,
        State.nodeQueryBody_entered, hbody]
    · rw [hentered]; rfl

end Sys2Proof.Machine
end

section
namespace Sys2Proof.Machine

/-! ## O47: NODE_SET (R154) -/

/-! ### Sending and resending a notice (R181, R182, R185) -/

theorem State.noticeCell_congr {s t : State} (ha : t.agent.address = s.agent.address)
    (hs : t.agent.settings = s.agent.settings) (o : Origin) (e : NoticeEntry) : t.noticeCell o e = s.noticeCell o e := by
  simp only [State.noticeCell, State.nodeSource, ha, hs]

/-- A resend leaves the notice queue, and restarts the ack timer with this retry count (R182). -/
theorem State.resendNotice_notices (s : State) (o : Origin) (e : NoticeEntry) (k : Nat) :
    (s.resendNotice o e k).notices =
      { s.notices with retry := k, ackTimer := some s.agent.settings.ackTimeout } := by
  obtain ⟨-, -, -, hnotices⟩ := s.offerNotice_frame o e
  simp only [State.resendNotice, State.countNotice_notices, hnotices]

/-- The oldest entry is sent when it is UNSENT, with a destination that can be reached (R181). -/
theorem State.sendOldest_unsent {s : State} {o : Origin} {e : NoticeEntry} {es : List NoticeEntry}
    (hd : s.agent.settings.destination = some o) (hq : s.notices.queue = e :: es) (ha : e.awaiting = false)
    (hu : s.notices.unreachable = false) :
    s.sendOldest =
      { (s.offerNotice o e).countNotice fun c => { c with noticesSent := c.noticesSent + 1 } with
        notices := { s.notices with
          queue := { e with awaiting := true } :: es
          retry := 0
          ackTimer := some s.agent.settings.ackTimeout } } := by
  obtain ⟨-, -, -, hnotices⟩ := s.offerNotice_frame o e
  simp only [State.sendOldest, hd, hq, ha, hu, Bool.or_self, Bool.false_eq_true, if_false, State.countNotice_notices,
    hnotices]

theorem State.sendOldest_agent (s : State) : s.sendOldest.agent = s.agent := by
  unfold State.sendOldest
  split
  · rename_i o e _ _ _
    obtain ⟨-, hagent, -⟩ := s.offerNotice_frame o e
    split
    · rfl
    · exact hagent
  · rfl

theorem State.sendOldest_empty {s : State} (hq : s.notices.queue = []) : s.sendOldest = s := by
  unfold State.sendOldest
  rw [hq]
  split
  · rename_i h
    cases h
  · rfl

/-! ### A selected destination (R185) -/

/-- The Notice Unit with its unreachable flag cleared. -/
def State.reachable (s : State) : State := { s with notices := { s.notices with unreachable := false } }

/-- The settings changed, and nothing else. -/
def State.withSettings (s : State) (x : Settings) : State := { s with agent := { s.agent with settings := x } }

section
variable {s : State}

theorem State.destinationSelected_none (hd : s.agent.settings.destination = none) :
    s.destinationSelected = { s with notices := { s.notices with unreachable := false, ackTimer := none } } := by
  simp only [State.destinationSelected, hd]

variable {o : Origin} (hd : s.agent.settings.destination = some o)
include hd

theorem State.destinationSelected_awaiting {e : NoticeEntry} (hq : s.notices.queue.head? = some e)
    (ha : e.awaiting = true) : s.destinationSelected = s.reachable.resendNotice o e 0 := by
  obtain ⟨es, hes⟩ := List.head?_eq_some_iff.1 hq
  have holdest : s.notices.awaitingEntry = some e := by simp only [Notices.awaitingEntry, hes, ha, if_true]
  simp only [State.destinationSelected, hd, holdest]
  rfl

theorem State.destinationSelected_unsent {e : NoticeEntry} {es : List NoticeEntry} (hq : s.notices.queue = e :: es)
    (ha : e.awaiting = false) : s.destinationSelected = s.reachable.sendOldest := by
  have holdest : s.notices.awaitingEntry = none := by
    simp only [Notices.awaitingEntry, hq, ha, Bool.false_eq_true, if_false]
  simp only [State.destinationSelected, hd, holdest]
  rfl

theorem State.destinationSelected_empty (hq : s.notices.queue = []) : s.destinationSelected = s.reachable := by
  have holdest : s.notices.awaitingEntry = none := by simp only [Notices.awaitingEntry, hq]
  simp only [State.destinationSelected, hd, holdest]
  exact State.sendOldest_empty hq

end

/-! ### The same beside the Agent's bookkeeping -/

section
variable {s t : State} (h : SameBlocks s t)
include h

theorem SameBlocks.claim (q : QueueId) (e : Entry) :
    SameBlocks (s.claim q e).1 (t.claim q e).1 ∧ (t.claim q e).2 = (s.claim q e).2 := by
  have hadm : t.admits q = s.admits q := by rw [h]; rfl
  rcases s.claim_cases q e with ⟨ha, hc⟩ | ⟨ha, hc⟩
  · rw [hc, State.claim_admitted e (hadm.trans ha), h]
    exact ⟨rfl, rfl⟩
  · rw [hc, State.claim_refused e (hadm.trans ha), h]
    exact ⟨rfl, rfl⟩

theorem SameBlocks.countNotice (f : NoticeCounters → NoticeCounters) : SameBlocks (s.countNotice f) (t.countNotice f) := by
  rw [h]; rfl

theorem SameBlocks.withNotices (n : Notices) : SameBlocks { s with notices := n } { t with notices := n } := by
  rw [h]; rfl

theorem SameBlocks.withSettings (x : Settings) : SameBlocks (s.withSettings x) (t.withSettings x) := by
  rw [h]; rfl

theorem SameBlocks.offerNotice (o : Origin) (e : NoticeEntry) : SameBlocks (s.offerNotice o e) (t.offerNotice o e) := by
  have hcell : t.noticeCell o e = s.noticeCell o e := State.noticeCell_congr h.frame.address h.frame.settings o e
  obtain ⟨hclaim, hflag⟩ := h.claim (mgmtQueue o) { cell := s.noticeCell o e, source := .notice, marked := false }
  unfold State.offerNotice
  rw [hcell]
  generalize s.claim (mgmtQueue o) _ = x at *
  generalize t.claim (mgmtQueue o) _ = y at *
  obtain ⟨u, a⟩ := x
  obtain ⟨v, b⟩ := y
  obtain rfl : b = a := hflag
  cases b with
  | true => exact hclaim
  | false => exact hclaim.countNotice _

theorem SameBlocks.resendNotice (o : Origin) (e : NoticeEntry) (k : Nat) :
    SameBlocks (s.resendNotice o e k) (t.resendNotice o e k) := by
  have hnotices : (t.resendNotice o e k).notices = (s.resendNotice o e k).notices := by
    rw [State.resendNotice_notices, State.resendNotice_notices, h.frame.settings, h]
  have hoffer := ((h.offerNotice o e).countNotice fun c => { c with noticesResent := c.noticesResent + 1 }).withNotices
    (s.resendNotice o e k).notices
  have heq : t.resendNotice o e k = { (t.offerNotice o e).countNotice fun c =>
      { c with noticesResent := c.noticesResent + 1 } with notices := (s.resendNotice o e k).notices } := by
    rw [← hnotices]; rfl
  rw [heq]
  exact hoffer

theorem SameBlocks.sendOldest_unsent {o : Origin} {e : NoticeEntry} {es : List NoticeEntry}
    (hd : s.agent.settings.destination = some o) (hq : s.notices.queue = e :: es) (ha : e.awaiting = false)
    (hu : s.notices.unreachable = false) : SameBlocks s.sendOldest t.sendOldest := by
  have hsettings : t.agent.settings = s.agent.settings := h.frame.settings
  have hnotices : t.notices = s.notices := by rw [h]
  rw [State.sendOldest_unsent hd hq ha hu, State.sendOldest_unsent (hsettings ▸ hd) (hnotices ▸ hq) ha (hnotices ▸ hu),
    hsettings, hnotices]
  exact ((h.offerNotice o e).countNotice _).withNotices _

end

/-! ### What a request leaves of the notices (R184) -/

/-- While the destination can be reached, what follows the effect of a request leaves the notices alone (R147, R184). -/
theorem State.served_notices {s : State} {m : HandCell} {rest : List HandCell} (hm : s.agent.hands = m :: rest)
    {effect : State → State} (hu : (effect (s.entered m rest)).notices.unreachable = false) (leased : Bool) (st : Status)
    (body : List Byte) : (s.served leased effect st body).notices = (effect (s.entered m rest)).notices := by
  generalize he : effect (s.entered m rest) = e at hu
  have hrespond : (e.respond m.request st body).notices = e.notices := State.offerResponse_notices _ _ _
  have hfollow : ((e.respond m.request st body).follow leased m.request.origin).notices = e.notices := by
    rw [State.follow_reached (by rw [hrespond]; exact hu)]
    unfold State.renewFor
    split
    · split <;> exact hrespond
    · exact hrespond
  simp only [State.served, hm, he, State.concluded]
  obtain ⟨-, -, -, hsettled⟩ := settleHands_frame rest ((e.respond m.request st body).follow leased m.request.origin)
  exact hsettled.trans hfollow

theorem EntriesKept.of_settings {s t : State} {x : Settings} (h : t.agent = { s.agent with settings := x }) :
    EntriesKept s t :=
  ⟨by rw [h], id, fun _ => ⟨rfl, rfl⟩, by rw [h, List.map_id]⟩

/-! ### The handler, by its checks -/

theorem handleNodeSet_malformed {r : Request} (s : State) (h : r.body.length ≠ 7) : handleNodeSet r s = malformed s := by
  unfold handleNodeSet
  split
  · rename_i hb
    simp [hb] at h
  · rfl

section
variable {lmgt : Bool} {mask act hop dest lease : Byte} {ack : BitVec 16} {bad : Fin 5 → Prop}
  (h0 : bad 0 ↔ mask.getLsbD 0 = true ∧ 1 < act.toNat)
  (h1 : bad 1 ↔ mask.getLsbD 1 = true ∧ ¬(1 ≤ hop.toNat ∧ hop.toNat ≤ 15))
  (h2 : bad 2 ↔ mask.getLsbD 2 = true ∧ dest = 254 ∧ lmgt = false)
  (h3 : bad 3 ↔ mask.getLsbD 3 = true ∧ ¬(10 ≤ ack.toNat ∧ ack.toNat ≤ 1000))
  (h4 : bad 4 ↔ mask.getLsbD 4 = true ∧ lease = 0)
include h0 h1 h2 h3 h4

/-- Of the selected fields that are out of range, the one with the lowest mask bit is answered (R154). -/
theorem nodeSetFault_lowest {k : Fin 5} (hk : bad k) (hlow : ∀ j, j < k → ¬bad j) :
    nodeSetFault lmgt mask act hop dest ack lease = some (BitVec.ofNat 8 k.val) := by
  unfold nodeSetFault
  match k with
  | 0 => exact if_pos (h0.1 hk)
  | 1 =>
    rw [if_neg (mt h0.2 (hlow 0 (by decide))), if_pos (h1.1 hk)]
    rfl
  | 2 =>
    rw [if_neg (mt h0.2 (hlow 0 (by decide))), if_neg (mt h1.2 (hlow 1 (by decide))), if_pos (h2.1 hk)]
    rfl
  | 3 =>
    rw [if_neg (mt h0.2 (hlow 0 (by decide))), if_neg (mt h1.2 (hlow 1 (by decide))),
      if_neg (mt h2.2 (hlow 2 (by decide))), if_pos (h3.1 hk)]
    rfl
  | 4 =>
    rw [if_neg (mt h0.2 (hlow 0 (by decide))), if_neg (mt h1.2 (hlow 1 (by decide))),
      if_neg (mt h2.2 (hlow 2 (by decide))), if_neg (mt h3.2 (hlow 3 (by decide))), if_pos (h4.1 hk)]
    rfl

theorem nodeSetFault_inRange (hok : ∀ k, ¬bad k) : nodeSetFault lmgt mask act hop dest ack lease = none := by
  rw [nodeSetFault, if_neg (mt h0.2 (hok 0)), if_neg (mt h1.2 (hok 1)), if_neg (mt h2.2 (hok 2)),
    if_neg (mt h3.2 (hok 3)), if_neg (mt h4.2 (hok 4))]

end

section
variable {r : Request} {mask act hop dest a1 a0 period : Byte} (hb : r.body = [mask, act, hop, dest, a1, a0, period])
include hb

theorem handleNodeSet_range {s : State} {bit : Byte}
    (hf : nodeSetFault s.agent.lmgt mask act hop dest (a1 ++ a0) period = some bit) :
    handleNodeSet r s = (s, .answer .range [bit]) := by
  have hword : word16 a1 a0 = a1 ++ a0 := rfl
  simp only [handleNodeSet, hb, hword, hf]

theorem handleNodeSet_changed {s : State}
    (hf : nodeSetFault s.agent.lmgt mask act hop dest (a1 ++ a0) period = none) :
    handleNodeSet r s =
      (if mask.getLsbD 2 = true then
          (s.withSettings (s.agent.settings.changed mask act hop dest (a1 ++ a0) period)).destinationSelected
        else s.withSettings (s.agent.settings.changed mask act hop dest (a1 ++ a0) period),
        .answer .ok (s.agent.settings.changed mask act hop dest (a1 ++ a0) period).bytes) := by
  have hword : word16 a1 a0 = a1 ++ a0 := rfl
  simp only [handleNodeSet, hb, hword, hf]
  rfl

end

/-- Settles O47: the lowest fault is answered; otherwise the settings change, and the destination as it then stands decides
what the Notice Unit sends. -/
theorem nodeSetChangesTheSettings : Obligations.NodeSetChangesTheSettings := by
  unfold Obligations.NodeSetChangesTheSettings
  intro m rest s ht hr r
  have hentered := s.entered_sameBlocks m rest
  have served {effect : State → State} {answer : Status} {bytes : List Byte}
      (hh : handleNodeSet r (s.entered m rest) = (effect (s.entered m rest), .answer answer bytes))
      (hs : SameBlocks (effect s) (effect (s.entered m rest)))
      (hk : EntriesKept (s.entered m rest) (effect (s.entered m rest))) : Serves .nodeSet s true effect r answer bytes :=
    serves_effect rfl rfl (s.needsLease_of_leased rfl) ht hr hh hs hk
  refine ⟨fun hb => served (handleNodeSet_malformed _ hb) hentered (.of_eq rfl),
    fun mask act hop dest a1 a0 period hb => ?_⟩
  intro ack bad x settings set told leaves body
  have h1 : bad 1 ↔ mask.getLsbD 1 = true ∧ ¬(1 ≤ hop.toNat ∧ hop.toNat ≤ 15) := and_congr_right fun _ => by omega
  have h3 : bad 3 ↔ mask.getLsbD 3 = true ∧ ¬(10 ≤ ack.toNat ∧ ack.toNat ≤ 1000) := and_congr_right fun _ => by omega
  have hlmgt : (s.entered m rest).agent.lmgt = s.agent.lmgt := hentered.frame.lmgt
  refine ⟨fun k hk hlow => served (handleNodeSet_range hb ?_) hentered (.of_eq rfl), fun hok => ?_⟩
  · rw [hlmgt]
    exact nodeSetFault_lowest Iff.rfl h1 Iff.rfl h3 Iff.rfl hk hlow
  have hanswer := handleNodeSet_changed (s := s.entered m rest) hb
    (by rw [hlmgt]; exact nodeSetFault_inRange Iff.rfl h1 Iff.rfl h3 Iff.rfl hok)
  rw [s.entered_settings m rest] at hanswer
  change _ = (if mask.getLsbD 2 = true then (set (s.entered m rest)).destinationSelected else set (s.entered m rest),
    Reply.answer .ok body) at hanswer
  have hset : SameBlocks (set s) (set (s.entered m rest)) := hentered.withSettings settings
  have htold : SameBlocks (told s) (told (s.entered m rest)) := by rw [hentered]; rfl
  have hnotices : (s.entered m rest).notices = s.notices := s.entered_notices m rest
  have hhands : s.agent.hands = m :: rest := by
    obtain ⟨-, hhands, -⟩ := ht
    exact hhands
  refine ⟨fun hkeep => ?_, fun hselect => ?_⟩
  · refine served ?_ hset (.of_settings rfl)
    rw [hanswer, hkeep]
    rfl
  rw [if_pos hselect] at hanswer
  have leaving {effect : State → State} {n : Notices} (hserves : Serves .nodeSet s true effect r .ok body)
      (hn : (effect (s.entered m rest)).notices = n) (hu : n.unreachable = false) : leaves n :=
    ⟨_, hserves.1, (State.served_notices hhands (by rw [hn]; exact hu) true .ok body).trans hn⟩
  refine ⟨fun hd => ?_, fun o hd => ⟨fun e hq ha => ?_, fun e es hq ha => ?_, fun hq => ?_⟩⟩
  · have hserves : Serves .nodeSet s true
        (fun u => { set u with notices := { u.notices with unreachable := false, ackTimer := none } }) r .ok body := by
      refine served ?_ (by rw [hentered]; rfl) (.of_settings rfl)
      rw [hanswer, State.destinationSelected_none hd]
    exact ⟨hserves, leaving hserves (by rw [hnotices]) rfl⟩
  · have hserves : Serves .nodeSet s true (fun u => (told u).resendNotice o e 0) r .ok body := by
      obtain ⟨-, hagent, -⟩ := (told (s.entered m rest)).resendNotice_frame o e 0
      refine served ?_ (htold.resendNotice o e 0) (.of_settings hagent)
      rw [hanswer, State.destinationSelected_awaiting hd (hnotices ▸ hq) ha]
      rfl
    refine ⟨hserves, leaving hserves ?_ rfl⟩
    rw [State.resendNotice_notices, ← hnotices]
  · have hserves : Serves .nodeSet s true (fun u => (told u).sendOldest) r .ok body := by
      refine served ?_ (htold.sendOldest_unsent hd hq ha rfl) (.of_settings (told (s.entered m rest)).sendOldest_agent)
      rw [hanswer, State.destinationSelected_unsent hd (hnotices ▸ hq) ha]
      rfl
    refine ⟨hserves, leaving hserves ?_ rfl⟩
    rw [State.sendOldest_unsent (s := told (s.entered m rest)) hd (hnotices ▸ hq) ha rfl, ← hnotices]
  · have hserves : Serves .nodeSet s true told r .ok body := by
      refine served ?_ htold (.of_settings rfl)
      rw [hanswer, State.destinationSelected_empty hd (hnotices ▸ hq)]
      rfl
    exact ⟨hserves, leaving hserves (congrArg (fun n : Notices => { n with unreachable := false }) hnotices) rfl⟩

end Sys2Proof.Machine
end

section
namespace Sys2Proof.Machine

/-! ## O27: responses, and what follows a request (R147 to R149) -/

section
variable (s : State) (o : Origin) (c : Cell)

theorem State.offerResponse_admitted (h : s.admits (mgmtQueue o) = true) :
    s.offerResponse o c =
      State.setQueue { s with agentCtr := { s.agentCtr with responsesQueued := s.agentCtr.responsesQueued + 1 } } (mgmtQueue o)
        { s.queue (mgmtQueue o) with
          entries := (s.queue (mgmtQueue o)).entries ++ [{ cell := c, source := .agent, marked := false }]
          admitted := (s.queue (mgmtQueue o)).admitted + 1 } := by
  rw [State.offerResponse, State.claim_admitted _ h]
  rfl

theorem State.offerResponse_refused (h : s.admits (mgmtQueue o) = false) :
    s.offerResponse o c =
      State.setQueue { s with agentCtr := { s.agentCtr with responsesLost := s.agentCtr.responsesLost + 1 } } (mgmtQueue o)
        { s.queue (mgmtQueue o) with refused := (s.queue (mgmtQueue o)).refused + 1 } := by
  rw [State.offerResponse, State.claim_refused _ h]
  rfl

end

/-- Bytes that fit are brought to a length by adding 00h bytes at their end. -/
theorem padTo_of_le {n : Nat} {bs : List Byte} (h : bs.length ≤ n) :
    padTo n bs = bs ++ List.replicate (n - bs.length) 0 := by
  rw [padTo, List.take_append, List.take_of_length_le h, List.take_replicate, Nat.min_eq_left (Nat.sub_le _ _)]

/-- The response cell, with the payload of its envelope, its body, and the rest 00h (R148). -/
theorem State.response_eq (s : State) (o : Origin) (seq : BitVec 16) (code : Byte) (st : Status) {body : List Byte}
    (h : body.length ≤ 50) :
    s.response o seq code st body =
      { tag := mgmtTag, kind := .mgmt, cls := 3, seq := 0, hop := s.agent.settings.hopLimit, last := true, spare := 0
        len := BitVec.ofNat 6 (8 + body.length), spareLen := 0
        payload := [o.destByte, s.nodeSource] ++ bytes16 seq ++ [code, 0x80, st.code, BitVec.ofNat 8 body.length] ++ body ++
          List.replicate (50 - body.length) 0 } := by
  have hlen : ([o.destByte, s.nodeSource] ++ bytes16 seq ++ [code, 0x80, st.code, BitVec.ofNat 8 body.length] ++
      body).length = 8 + body.length := by
    simp only [List.length_append, bytes16, List.length_cons, List.length_nil]
  rw [State.response, mgmtCell, padTo_of_le (by rw [hlen]; omega), hlen, Nat.add_sub_add_left 8 50 body.length]

/-- The renewal that the lease logic makes, and the contact after it (R147, R170, R184). -/
theorem State.follow_eq (s : State) (leased : Bool) (o : Origin) :
    s.follow leased o = State.contact (if leased = true ∧ s.lease.holder = some o then s.leaseTo o else s) o := by
  unfold State.follow State.renewFor
  cases leased with
  | true => simp only [if_true, true_and]
  | false => simp only [Bool.false_eq_true, if_false, false_and]

/-- Settles O27: the claim decides the offer, and the rest is the order in which the blocks take the request. -/
theorem responsesAreQueuedOrLost : Obligations.ResponsesAreQueuedOrLost := by
  unfold Obligations.ResponsesAreQueuedOrLost
  refine ⟨fun o c s => ?_, fun r st body leased s hfit => ?_⟩
  · intro q x
    have hq : q = mgmtQueue o := by cases o <;> rfl
    exact ⟨fun h => hq ▸ s.offerResponse_admitted o c (hq ▸ h), fun h => hq ▸ s.offerResponse_refused o c (hq ▸ h)⟩
  · intro cell cached renewed
    have hcell : s.response r.origin r.seq r.code st body = cell := by
      rw [s.response_eq r.origin r.seq r.code st hfit]
      rfl
    refine ⟨hcell, ?_, s.follow_eq leased r.origin⟩
    have hrespond : s.respond r st body = cached.offerResponse r.origin cell := by rw [State.respond, hcell]; rfl
    rw [State.concluded, hrespond, State.follow_eq]
    rfl

end Sys2Proof.Machine
end

section
namespace Sys2Proof.Machine

/-! ## O26: the Agent's screening, and entering a request (R142 to R144) -/

/-! ### The verdict, by its checks (R142, R144) -/

/-- A cell of the local manager, or with the address of a node as its source, has an origin (R142). -/
theorem HandCell.has_origin {m : HandCell} (hs : m.fromLocal = true ∨ m.cell.sourceByte.toNat ≤ 253) :
    ¬(!m.fromLocal && decide (254 ≤ m.cell.sourceByte.toNat)) = true := by
  rw [Bool.and_eq_true, Bool.not_eq_true', decide_eq_true_eq]
  rintro ⟨hl, hbad⟩
  exact hs.elim (fun ht => Bool.false_ne_true (hl.symm.trans ht)) fun hin => by omega

/-- A READY node turns no request away, and a node in STARTING no NODE-QUERY (R142). -/
theorem State.notTurnedAway_starting {s : State} {m : HandCell} (hn : s.nodeState = .ready ∨ m.cell.code = 0x01) :
    ¬(s.nodeState = .starting ∧ m.cell.code ≠ 0x01) := by
  rintro ⟨hstart, hcode⟩
  exact hn.elim (fun hready => nomatch hstart.symm.trans hready) hcode

section
variable {s : State} {m : HandCell}

theorem State.verdict_flagged (h : m.cell.flagged = true) : s.verdict m = .notRequest := if_pos h

theorem State.verdict_badSource (h : m.cell.flagged = false) (hl : m.fromLocal = false)
    (hs : 254 ≤ m.cell.sourceByte.toNat) : s.verdict m = .badSource := by
  simp only [State.verdict, h, hl, hs, Bool.false_eq_true, if_false, Bool.not_false, decide_true, Bool.and_self, if_true]

variable (h : m.cell.flagged = false) (hs : m.fromLocal = true ∨ m.cell.sourceByte.toNat ≤ 253)
include h hs

theorem State.verdict_ack (hc : m.cell.code = 0x41) : s.verdict m = .ack := by
  rw [State.verdict, if_neg (Bool.eq_false_iff.1 h), if_neg (HandCell.has_origin hs), if_pos hc]

theorem State.verdict_starting (hc : m.cell.code ≠ 0x41) (hq : m.cell.code ≠ 0x01) (hn : s.nodeState = .starting) :
    s.verdict m = .starting := by
  rw [State.verdict, if_neg (Bool.eq_false_iff.1 h), if_neg (HandCell.has_origin hs), if_neg hc,
    if_pos ⟨hn, hq⟩]

variable (hc : m.cell.code ≠ 0x41) (hn : s.nodeState = .ready ∨ m.cell.code = 0x01)
include hc hn

theorem State.verdict_new (he : s.entryOf m.origin = none) : s.verdict m = .execute := by
  rw [State.verdict, if_neg (Bool.eq_false_iff.1 h), if_neg (HandCell.has_origin hs), if_neg hc,
    if_neg (State.notTurnedAway_starting hn), he]

theorem State.verdict_known {e : OriginEntry} (he : s.entryOf m.origin = some e) :
    s.verdict m = e.classify (s.agent.takesAnew m.origin m.cell.reqSeq) m.cell.reqSeq := by
  rw [State.verdict, if_neg (Bool.eq_false_iff.1 h), if_neg (HandCell.has_origin hs), if_neg hc,
    if_neg (State.notTurnedAway_starting hn), he]

end

/-- A repeat that some rule takes as a new request (log entry 28). -/
theorem Agent.takesAnew_iff (a : Agent) (o : Origin) (seq : BitVec 16) :
    a.takesAnew o seq = true ↔ ∃ p ∈ a.past, p.origin = o ∧ seq ∈ p.anew := by
  simp only [Agent.takesAnew, List.any_eq_true, Bool.and_eq_true, decide_eq_true_eq, List.contains_iff_mem]

section
variable {e : OriginEntry} {seq : BitVec 16} (anew : Bool)

theorem OriginEntry.classify_cached (h : seq = e.lastSeq) {r : Cell} (hr : e.resp = .cached r) :
    e.classify anew seq = .repeatOf r := by
  simp only [OriginEntry.classify, h, if_true, hr]

theorem OriginEntry.classify_pending (h : seq = e.lastSeq) (hr : e.resp = .pending) :
    e.classify anew seq = .repeatPending := by
  simp only [OriginEntry.classify, h, if_true, hr]

theorem OriginEntry.classify_newer (hlow : 1 ≤ (seq - e.lastSeq).toNat) (hhigh : (seq - e.lastSeq).toNat ≤ 32767) :
    e.classify anew seq = .execute := by
  have hne : seq ≠ e.lastSeq := fun h => by simp [h] at hlow
  simp only [OriginEntry.classify, hne, if_false, newerSeq_eq, hlow, hhigh, and_self, decide_true, Bool.true_or, if_true]

theorem OriginEntry.classify_older (h : 32768 ≤ (seq - e.lastSeq).toNat) :
    e.classify anew seq = if anew = true then .execute else .stale := by
  have hne : seq ≠ e.lastSeq := fun h' => by simp [h'] at h
  have hold : newerSeq seq e.lastSeq = false := by
    rw [newerSeq_eq]
    exact decide_eq_false (by omega)
  simp only [OriginEntry.classify, hne, if_false, hold, Bool.false_or]

end

/-! ### The cells in the Agent's hands (R142, log entry 10) -/

/-- The cell waits for the command that takes it. -/
def State.waits (s : State) (m : HandCell) : Prop := s.verdict m = .ack ∨ s.verdict m = .execute

/-- The first cell waits, and the others behind it. -/
theorem settleHands_waits {s : State} {m : HandCell} (h : s.waits m) (rest : List HandCell) :
    settleHands (m :: rest) s = s.setHands (m :: rest) := if_pos h

theorem settleHands_disposes {s : State} {m : HandCell} (h : ¬s.waits m) (rest : List HandCell) :
    settleHands (m :: rest) s = settleHands rest (s.dispose m (s.verdict m)) := if_neg h

theorem State.offerResponse_setHands (s : State) (hs : List HandCell) (o : Origin) (c : Cell) :
    (s.setHands hs).offerResponse o c = (s.offerResponse o c).setHands hs := by
  have hadm : (s.setHands hs).admits (mgmtQueue o) = s.admits (mgmtQueue o) := rfl
  cases ha : s.admits (mgmtQueue o) with
  | true => rw [s.offerResponse_admitted o c ha, State.offerResponse_admitted _ o c (hadm.trans ha)]; rfl
  | false => rw [s.offerResponse_refused o c ha, State.offerResponse_refused _ o c (hadm.trans ha)]; rfl

/-- Dealing with a cell does not look at the other cells in hands. -/
theorem State.dispose_setHands (s : State) (m : HandCell) (hs : List HandCell) (v : Verdict) :
    (s.setHands hs).dispose m v = (s.dispose m v).setHands hs := by
  cases v with
  | starting =>
    exact State.offerResponse_setHands ((s.consume.countAgent fun c =>
      { c with startingAnswered := c.startingAnswered + 1 }).notePast m.origin m.cell.reqSeq true) hs _ _
  | repeatOf r =>
    exact State.offerResponse_setHands (s.consume.countAgent fun c =>
      { c with repeatsAnswered := c.repeatsAnswered + 1 }) hs _ _
  | _ => rfl

theorem State.setHands_self {s : State} {hs : List HandCell} (h : s.agent.hands = hs) : s.setHands hs = s := by
  subst h; rfl

/-- Dealing with cells does not look at those in hands before. -/
theorem settleHands_setHands (hs cells : List HandCell) (s : State) :
    settleHands cells (s.setHands hs) = settleHands cells s := by
  induction cells generalizing s with
  | nil => rfl
  | cons m rest ih =>
    have hverdict : (s.setHands hs).verdict m = s.verdict m := rfl
    by_cases h : s.waits m
    · rw [settleHands_waits h, settleHands_waits (s := s.setHands hs) h]
      rfl
    · rw [settleHands_disposes h, settleHands_disposes (s := s.setHands hs) h, hverdict, State.dispose_setHands, ih]

/-- Cells dealt with together are those before the last, and then the last (R142). -/
theorem settleHands_append (cells : List HandCell) (s : State) (m : HandCell) :
    settleHands (cells ++ [m]) s = (settleHands cells s).giveAgent m := by
  induction cells generalizing s with
  | nil => exact (settleHands_setHands [] [m] s).symm
  | cons c rest ih =>
    by_cases h : s.waits c
    · rw [List.cons_append, settleHands_waits h, settleHands_waits h]
      exact (settleHands_waits (s := s.setHands (c :: rest)) h (rest ++ [m])).symm
    · rw [List.cons_append, settleHands_disposes h, settleHands_disposes h, ih]

theorem settleHands_eq_foldl (cells : List HandCell) (s : State) :
    settleHands cells s = cells.foldl State.giveAgent (s.setHands []) := by
  induction cells using List.reverseRecOn with
  | nil => rfl
  | append_singleton cells m ih => rw [settleHands_append, ih, List.foldl_append, List.foldl_cons, List.foldl_nil]

/-- A cell given to an Agent with empty hands, that is dealt with at once. -/
theorem State.giveAgent_disposes {s : State} {m : HandCell} {v : Verdict} (hs : s.agent.hands = [])
    (hv : s.verdict m = v) (ha : v ≠ .ack) (he : v ≠ .execute) : s.giveAgent m = s.dispose m v := by
  have hwaits : ¬s.waits m := by
    rintro (h | h)
    · exact ha (hv.symm.trans h)
    · exact he (hv.symm.trans h)
  obtain ⟨hagent, -, -⟩ := s.dispose_kept m v
  rw [State.giveAgent, hs, List.nil_append, settleHands_disposes hwaits, hv]
  exact State.setHands_self (by rw [hagent]; exact hs)

/-- A cell that waits joins those in hands, and so does one behind it. -/
theorem State.giveAgent_waits {s : State} {m first : HandCell} {rest : List HandCell}
    (hs : s.agent.hands ++ [m] = first :: rest) (h : s.waits first) :
    s.giveAgent m = s.setHands (s.agent.hands ++ [m]) := by
  rw [State.giveAgent, hs, settleHands_waits h]

/-! ### The origins' past (log entry 28) -/

theorem OriginPast.noted_eq (p : OriginPast) (seq : BitVec 16) (anew : Bool) :
    p.noted seq anew =
      let latest := if newerSeq seq p.latest then seq else p.latest
      let stands (x : BitVec 16) : Bool := decide (x ≠ seq ∧ newerSeq x latest = false)
      { origin := p.origin
        latest := latest
        since := (if anew then [] else [seq]) ++ p.since.filter stands
        anew := (if anew then [seq] else []) ++ p.anew.filter stands
        reset := p.reset.filter stands } := by
  have hstands (latest : BitVec 16) : (fun x => decide (x ≠ seq) && !newerSeq x latest) =
      fun x => decide (x ≠ seq ∧ newerSeq x latest = false) := by
    funext x
    rw [Bool.decide_and, Bool.decide_eq_false]
  simp only [OriginPast.noted, hstands]

/-! ### Entering a request (R143, R144) -/

section
variable {s : State} {o : Origin}

theorem State.entryOf_eq {before after : List OriginEntry} {e : OriginEntry}
    (hs : s.agent.origins = before ++ e :: after) (he : e.origin = o) (hb : ∀ x ∈ before, x.origin ≠ o) :
    s.entryOf o = some e := by
  rw [State.entryOf, hs, List.find?_append, List.find?_eq_none.2 (by simpa using hb), List.find?_cons_of_pos (by simpa using he)]
  rfl

theorem State.entryOf_none (h : ∀ x ∈ s.agent.origins, x.origin ≠ o) : s.entryOf o = none :=
  List.find?_eq_none.2 (by simpa using h)

end

theorem filter_others {before after : List OriginEntry} {e : OriginEntry} {o : Origin} (he : e.origin = o)
    (h : ∀ x ∈ before ++ after, x.origin ≠ o) :
    (before ++ e :: after).filter (fun x => decide (x.origin ≠ o)) = before ++ after := by
  have hkept : (before ++ after).filter (fun x => decide (x.origin ≠ o)) = before ++ after :=
    List.filter_eq_self.2 (by simpa using h)
  rw [List.filter_append, List.filter_cons_of_neg (by simpa using he), ← List.filter_append, hkept]

/-- The least recent entry that owes no commit is the last one that owes none (R144). -/
theorem dropLeastRecent_eq {before after : List OriginEntry} {e : OriginEntry} (he : e.owed = none)
    (h : ∀ x ∈ after, x.owed ≠ none) : dropLeastRecent (before ++ e :: after) = before ++ after := by
  have hskip : ∀ x ∈ after.reverse, ¬x.owed.isNone = true := by simpa [Option.isNone_iff_eq_none] using h
  rw [dropLeastRecent, List.reverse_append, List.reverse_cons, List.append_assoc, List.eraseP_append_right _ hskip,
    List.singleton_append, List.eraseP_cons_of_pos (by rw [he]; rfl), List.reverse_append, List.reverse_reverse,
    List.reverse_reverse]

/-- A commit from before a NODE-RESET that is turned away for want of the lease (R70, R147). -/
theorem State.staysAnew_iff (s : State) (m : HandCell) : s.staysAnew m = true ↔
    (m.cell.code = 0x22 ∧ m.cell.bodyMisfits = false ∧ (s.agent.address ≠ none ∨ m.origin = .localMgr) ∧
      s.lease.holder ≠ some m.origin) ∧ ∃ p ∈ s.agent.past, p.origin = m.origin ∧ m.cell.reqSeq ∈ p.anew := by
  have haccess (hc : m.cell.code = 0x22) : s.accessRefused m.origin m.cell.code = false ↔
      s.agent.address ≠ none ∨ m.origin = .localMgr := by
    rw [← Bool.not_eq_true, State.accessRefused_iff, hc]
    simp only [show (0x22 : Byte) ≠ 0x01 by decide, show (0x22 : Byte) ≠ 0x16 by decide, ne_eq, not_false_eq_true, and_true,
      not_and_or, not_not]
  simp only [State.staysAnew, State.commitTurnedAway, Bool.and_eq_true, Bool.not_eq_true', decide_eq_true_eq,
    Agent.takesAnew_iff, and_assoc]
  exact and_congr_right fun hc => and_congr_right fun _ => and_congr_left fun _ => haccess hc

/-- The state in which a request stands entered, by the origin table and the count of replaced entries it leaves. -/
def State.enteredAs (s : State) (m : HandCell) (rest : List HandCell) (origins : List OriginEntry) (replaced : Counter) :
    State :=
  { s with
    agent := { s.agent with
      hands := rest, origins := origins, past := (s.notePast m.origin m.cell.reqSeq (s.staysAnew m)).agent.past }
    agentCtr := { s.agentCtr with
      requestsConsumed := s.agentCtr.requestsConsumed + 1
      executed := s.agentCtr.executed + 1
      entriesReplaced := replaced } }

section
variable {s : State} {m : HandCell} (rest : List HandCell)

theorem State.entered_known {e : OriginEntry} (h : s.entryOf m.origin = some e) :
    s.entered m rest = s.enteredAs m rest
      ({ e with lastSeq := m.cell.reqSeq } :: s.agent.origins.filter fun x => decide (x.origin ≠ m.origin))
      s.agentCtr.entriesReplaced := by
  have hentry : ((s.setHands rest).consume.notePast m.origin m.cell.reqSeq (s.staysAnew m)).entryOf m.origin = some e := h
  simp only [State.entered, State.enterOrigin, hentry]
  rfl

variable (h : s.entryOf m.origin = none)
include h

theorem State.entered_new (hroom : s.agent.origins.length < 8) :
    s.entered m rest = s.enteredAs m rest
      ({ origin := m.origin, lastSeq := m.cell.reqSeq, resp := .pending, owed := none } :: s.agent.origins)
      s.agentCtr.entriesReplaced := by
  have hentry : ((s.setHands rest).consume.notePast m.origin m.cell.reqSeq (s.staysAnew m)).entryOf m.origin = none := h
  unfold State.entered State.enterOrigin
  rw [hentry]
  exact congrArg (State.countAgent · _) (if_pos hroom)

theorem State.entered_replacing (hfull : 8 ≤ s.agent.origins.length) :
    s.entered m rest = s.enteredAs m rest
      ({ origin := m.origin, lastSeq := m.cell.reqSeq, resp := .pending, owed := none } ::
        dropLeastRecent s.agent.origins)
      (s.agentCtr.entriesReplaced + 1) := by
  have hentry : ((s.setHands rest).consume.notePast m.origin m.cell.reqSeq (s.staysAnew m)).entryOf m.origin = none := h
  unfold State.entered State.enterOrigin
  rw [hentry]
  exact congrArg (State.countAgent · _) (if_neg (Nat.not_lt.2 hfull))

end

/-- Settles O26: the verdict by its checks, one cell dealt with after another, and the entry of a request by its origin's
place in the table. -/
theorem theAgentScreensItsCells : Obligations.TheAgentScreensItsCells := by
  unfold Obligations.TheAgentScreensItsCells
  intro m s count clean toTable wait asNew newer noted first past
  have hanew : s.agent.takesAnew m.origin m.cell.reqSeq = true ↔ asNew := s.agent.takesAnew_iff _ _
  have hpast (stays : Bool) : (s.notePast m.origin m.cell.reqSeq stays).agent.past = past stays := by
    have hnewer : newerSeq = newer := funext fun x => funext fun last => newerSeq_eq x last
    have hnoted : noted stays = fun p => p.noted m.cell.reqSeq stays :=
      funext fun p => by rw [p.noted_eq, hnewer]
    simp only [past, hnoted]
    rfl
  refine ⟨fun hs => ?_, fun c rest hs hv => ?_, fun cells => settleHands_eq_foldl cells s, fun rest => ?_⟩
  · have hwait (hv : s.waits m) : s.giveAgent m = wait := State.giveAgent_waits (by rw [hs]; rfl) hv
    have hdisposed {v : Verdict} (hv : s.verdict m = v) (ha : v ≠ .ack) (he : v ≠ .execute) :
        s.giveAgent m = s.dispose m v := State.giveAgent_disposes hs hv ha he
    refine ⟨fun hf => hdisposed (State.verdict_flagged hf) nofun nofun,
      fun hf hl hsrc => hdisposed (State.verdict_badSource hf hl hsrc) nofun nofun,
      fun ⟨hf, hsrc⟩ hc => hwait (.inl (State.verdict_ack hf hsrc hc)), fun ⟨hf, hsrc⟩ hc hq hn => ?_,
      fun ⟨⟨hf, hsrc⟩, hc, hn⟩ he => hwait (.inr (State.verdict_new hf hsrc hc hn he)),
      fun ⟨⟨hf, hsrc⟩, hc, hn⟩ e he => ?_⟩
    · rw [hdisposed (State.verdict_starting hf hsrc hc hq hn) nofun nofun, ← hpast]
      rfl
    · have hverdict := State.verdict_known hf hsrc hc hn he
      refine ⟨fun hseq r hr => ?_, fun hseq hr => ?_, fun hlow hhigh => ?_, fun hold hno => ?_, fun hold hyes => ?_⟩
      · exact hdisposed (hverdict.trans (OriginEntry.classify_cached _ hseq hr)) nofun nofun
      · exact hdisposed (hverdict.trans (OriginEntry.classify_pending _ hseq hr)) nofun nofun
      · exact hwait (.inr (hverdict.trans (OriginEntry.classify_newer _ hlow hhigh)))
      · refine hdisposed (hverdict.trans ?_) nofun nofun (v := .stale)
        rw [OriginEntry.classify_older _ hold, if_neg (mt hanew.1 hno)]
      · refine hwait (.inr (hverdict.trans ?_))
        rw [OriginEntry.classify_older _ hold, if_pos (hanew.2 hyes)]
  · have hwait : s.waits c := hv.symm
    exact State.giveAgent_waits (by rw [hs]; rfl) hwait
  · intro turnedAway enteredAs fresh
    have hstays : s.staysAnew m = decide (turnedAway ∧ asNew) := by
      rw [Bool.eq_iff_iff, decide_eq_true_eq]
      exact s.staysAnew_iff m
    have hentered (origins : List OriginEntry) (replaced : Counter) :
        s.enteredAs m rest origins replaced = enteredAs origins replaced := by
      rw [State.enteredAs, hpast, hstays]
    refine ⟨fun before e after hes he hother => ?_, fun hother => ⟨fun hroom => ?_, fun hfull before e after hes he howe => ?_⟩⟩
    · have hentry := State.entryOf_eq hes he fun x hx => hother x (List.mem_append_left _ hx)
      rw [State.entered_known rest hentry, hes, filter_others he hother, hentered]
    · rw [State.entered_new rest (State.entryOf_none hother) hroom, hentered]
    · rw [State.entered_replacing rest (State.entryOf_none hother) hfull, hes, dropLeastRecent_eq he howe, hentered]

end Sys2Proof.Machine
end

section
namespace Sys2Proof.Machine

/-! ## O53: LEASE_TAKE, LEASE_RENEW and LEASE_GIVE -/

/-! ### Effects apart from the Agent -/

/-- The effect neither reads nor changes what the Agent keeps, and so the entering of a request makes no difference to it. -/
def ApartFromAgent (effect : State → State) : Prop :=
  ∀ s a c, effect { s with agent := a, agentCtr := c } = { effect s with agent := a, agentCtr := c }

section
variable {effect : State → State} (h : ApartFromAgent effect)
include h

theorem ApartFromAgent.kept (s : State) : (effect s).agent = s.agent ∧ (effect s).agentCtr = s.agentCtr := by
  have hs : effect s = { effect s with agent := s.agent, agentCtr := s.agentCtr } := h s s.agent s.agentCtr
  exact ⟨by rw [hs], by rw [hs]⟩

theorem ApartFromAgent.sameBlocks {s t : State} (hst : SameBlocks s t) : SameBlocks (effect s) (effect t) := by
  obtain ⟨hs, -⟩ := h.kept s
  obtain ⟨ht, hctr⟩ := h.kept t
  unfold SameBlocks
  rw [hs, ht, hctr]
  exact (congrArg effect hst).trans (h s _ _)

end

section
variable {i : Instr} {code : Byte} {handler : Request → State → State × Reply} {s : State} {m : HandCell}
  {rest : List HandCell}

/-- A request that needs no lease is served with its block's effect on the other blocks, and renews nothing (R170). -/
theorem serves_apart (he : exec i s = .next (s.takeRequest (isCode code) handler))
    (hcat : catalogue.contains code = true) (hn : s.needsLease code = false) (ht : Takes s m rest code) (hr : Reaches s m)
    {effect : State → State} (ha : ApartFromAgent effect) {st : Status} {body : List Byte}
    (hh : handler m.request (s.entered m rest) = (effect (s.entered m rest), .answer st body)) :
    Serves i s false effect m.request st body :=
  serves_effect he hcat hn ht hr hh (ha.sameBlocks (s.entered_sameBlocks m rest)) (.of_eq (ha.kept _).1)

end

/-! ### LEASE_TAKE (R167, R168) -/

/-- An OPEN batch is discarded, and any other is left as it is (R43). -/
theorem State.discardOpen_eq (s : State) :
    s.discardOpen = { s with batch := if s.batch.state = .opened then s.batch.ended else s.batch } := by
  unfold State.discardOpen
  split_ifs <;> rfl

section
variable {r : Request} {s : State}

theorem handleLeaseTake_malformed (s : State) (h : r.body.length ≠ 1) : handleLeaseTake r s = malformed s := by
  unfold handleLeaseTake
  split
  · rename_i hb
    simp [hb] at h
  · rfl

variable {force : Byte} (hb : r.body = [force])
include hb

theorem handleLeaseTake_range (s : State) (hf : 1 < force.toNat) : handleLeaseTake r s = outOfRange s := by
  simp only [handleLeaseTake, hb, if_pos hf]

variable (hf : force.toNat ≤ 1)
include hf

theorem handleLeaseTake_free (hl : s.lease.holder = none) : handleLeaseTake r s = s.leaseTaken r.origin 0 := by
  simp only [handleLeaseTake, hb, if_neg (Nat.not_lt.2 hf), hl]

theorem handleLeaseTake_own (hl : s.lease.holder = some r.origin) : handleLeaseTake r s = s.leaseTaken r.origin 1 := by
  simp only [handleLeaseTake, hb, if_neg (Nat.not_lt.2 hf), hl, if_true]

variable {o : Origin} (hl : s.lease.holder = some o) (ho : o ≠ r.origin)
include hl ho

theorem handleLeaseTake_unforced (h0 : force = 0) :
    handleLeaseTake r s = (s.readLease.1, .answer .heldByOther [o.code, BitVec.ofNat 8 s.readLease.2]) := by
  simp only [handleLeaseTake, hb, if_neg (Nat.not_lt.2 hf), hl, if_neg ho, if_pos h0]

theorem handleLeaseTake_committed (h0 : force ≠ 0) (hc : s.batch.state = .waiting ∨ s.batch.state = .applying) :
    handleLeaseTake r s = (s, .answer .busy s.batch.stateAndId) := by
  simp only [handleLeaseTake, hb, if_neg (Nat.not_lt.2 hf), hl, if_neg ho, if_neg h0, if_pos hc]

theorem handleLeaseTake_forced (h0 : force ≠ 0) (hc : ¬(s.batch.state = .waiting ∨ s.batch.state = .applying)) :
    handleLeaseTake r s = (s.discardOpen.hand .leaseLogic (leaseLost o 2)).leaseTaken r.origin 2 := by
  simp only [handleLeaseTake, hb, if_neg (Nat.not_lt.2 hf), hl, if_neg ho, if_neg h0, if_neg hc]

end

/-! ### LEASE_RENEW and LEASE_GIVE (R169, R171) -/

section
variable {r : Request} {s : State}

theorem handleLeaseRenew_malformed (s : State) (h : r.body ≠ []) : handleLeaseRenew r s = malformed s := if_pos h

theorem handleLeaseRenew_holder (hb : r.body = []) (hl : s.lease.holder = some r.origin) :
    handleLeaseRenew r s = (s.leaseTo r.origin, .answer .ok [s.agent.settings.leasePeriod]) :=
  (if_neg (not_not.2 hb)).trans (if_pos hl)

theorem handleLeaseRenew_notHolder (hb : r.body = []) (hl : s.lease.holder ≠ some r.origin) :
    handleLeaseRenew r s = (s, .answer .notHolder [originCode s.lease.holder]) :=
  (if_neg (not_not.2 hb)).trans (if_neg hl)

theorem handleLeaseGive_malformed (s : State) (h : r.body ≠ []) : handleLeaseGive r s = malformed s := if_pos h

theorem handleLeaseGive_notHolder (hb : r.body = []) (hl : s.lease.holder ≠ some r.origin) :
    handleLeaseGive r s = (s, .answer .notHolder [originCode s.lease.holder]) :=
  (if_neg (not_not.2 hb)).trans (if_pos hl)

/-- The batch state decides what the holder's LEASE-GIVE does. -/
theorem handleLeaseGive_holder (hb : r.body = []) (hl : s.lease.holder = some r.origin) :
    handleLeaseGive r s =
      match s.batch.state with
      | .waiting | .applying => (s, .answer .busy s.batch.stateAndId)
      | .opened => ({ s.discardBatch with lease := .free }, .answer .ok [1])
      | .none => ({ s with lease := .free }, .answer .ok [0]) :=
  (if_neg (not_not.2 hb)).trans (if_neg (not_not.2 hl))

end

/-- Settles O53: each answer is that of the handler's checks in their order, in the state with the request entered. -/
theorem theLeaseIsTakenRenewedAndGiven : Obligations.TheLeaseIsTakenRenewedAndGiven := by
  unfold Obligations.TheLeaseIsTakenRenewedAndGiven
  intro m rest s hr r period mine busy committed dropped
  have hlease := s.entered_lease m rest
  have hbatch := s.entered_batch m rest
  have hperiod : (s.entered m rest).agent.settings.leasePeriod = period := by rw [s.entered_settings m rest]
  have hbusy : (s.entered m rest).batch.stateAndId = busy := by rw [hbatch]; exact s.batch.stateAndId_eq
  have hmine : (s.entered m rest).leaseTo m.origin = mine (s.entered m rest) := by rw [State.leaseTo, hperiod]
  have hmineApart : ApartFromAgent mine := fun _ _ _ => rfl
  have hidApart : ApartFromAgent id := fun _ _ _ => rfl
  refine ⟨fun ht => ?_, fun ht => ?_, fun ht => ?_⟩
  · have served {effect : State → State} (ha : ApartFromAgent effect) {st : Status} {body : List Byte}
        (hh : handleLeaseTake r (s.entered m rest) = (effect (s.entered m rest), .answer st body)) :
        Serves .leaseTake s false effect r st body :=
      serves_apart rfl rfl (s.needsLease_reading rfl (by decide)) ht hr ha hh
    have htaken (how : Byte) : (s.entered m rest).leaseTaken m.origin how =
        (mine (s.entered m rest), .answer .ok [m.origin.code, period, how]) := by
      rw [State.leaseTaken, hmine, hperiod]
    refine ⟨fun hb => served hidApart (handleLeaseTake_malformed _ hb), fun force hb =>
      ⟨fun hf => served hidApart (handleLeaseTake_range hb _ hf), fun hf => ?_⟩⟩
    rw [← hlease]
    refine ⟨fun hl => served hmineApart ((handleLeaseTake_free hb hf hl).trans (htaken 0)),
      fun hl => served hmineApart ((handleLeaseTake_own hb hf hl).trans (htaken 1)), fun o hl ho => ?_⟩
    have h1 (hforce : force = 1) : force ≠ 0 := by rw [hforce]; decide
    refine ⟨fun h0 hover => served hidApart ?_, fun h0 k hheld hk => ?_, fun hforce hc => served hidApart ?_,
      fun hforce hc => served (fun _ _ _ => rfl) ?_⟩
    · rw [handleLeaseTake_unforced hb hf hl ho h0, State.readLease_idle (by rw [hover]; nofun)]
      rfl
    · obtain ⟨hlow, hhigh⟩ := secondsLeft_bounds (Config.elapsed (s.entered m rest).draws) hk
      refine ⟨_, hlow, hhigh, served (fun _ _ _ => rfl) ?_⟩
      rw [handleLeaseTake_unforced hb hf hl ho h0, State.readLease_held hheld]
    · rw [handleLeaseTake_committed hb hf hl ho (h1 hforce) (by rw [hbatch]; exact hc), hbusy]
      rfl
    · rw [handleLeaseTake_forced hb hf hl ho (h1 hforce) (by rw [hbatch]; exact hc), State.discardOpen_eq, hbatch]
      simp only [State.leaseTaken, State.leaseTo, State.hand, hperiod]
      rfl
  · have served {effect : State → State} (ha : ApartFromAgent effect) {st : Status} {body : List Byte}
        (hh : handleLeaseRenew r (s.entered m rest) = (effect (s.entered m rest), .answer st body)) :
        Serves .leaseRenew s false effect r st body :=
      serves_apart rfl rfl (s.needsLease_reading rfl (by decide)) ht hr ha hh
    rw [← hlease]
    refine ⟨fun hb => served hidApart (handleLeaseRenew_malformed _ hb), fun hb hl => served hmineApart ?_,
      fun hb hl => served hidApart (handleLeaseRenew_notHolder hb hl)⟩
    rw [handleLeaseRenew_holder hb hl, hperiod]
    exact congrArg (·, _) hmine
  · have served {effect : State → State} (ha : ApartFromAgent effect) {st : Status} {body : List Byte}
        (hh : handleLeaseGive r (s.entered m rest) = (effect (s.entered m rest), .answer st body)) :
        Serves .leaseGive s false effect r st body :=
      serves_apart rfl rfl (s.needsLease_reading rfl (by decide)) ht hr ha hh
    rw [← hlease]
    refine ⟨fun hb => served hidApart (handleLeaseGive_malformed _ hb),
      fun hb hl => served hidApart (handleLeaseGive_notHolder hb hl), fun hb hl hc => served hidApart ?_,
      fun hb hl hopen => served (fun _ _ _ => rfl) ?_, fun hb hl hnone => served (fun _ _ _ => rfl) ?_⟩
    all_goals rw [handleLeaseGive_holder hb hl, hbusy, hbatch]
    · rcases hc with hc | hc <;> rw [hc] <;> rfl
    · have hended : s.batch.ended = dropped := (if_pos hopen).symm
      rw [hopen, State.discardBatch, hbatch, hended]
    · rw [hnone]

end Sys2Proof.Machine
end

section
namespace Sys2Proof.Machine

/-! ## O8: the laws of the notice queue and of delivery

An operation of the Notice Unit that changes the queue keeps every law but one: it may leave an UNSENT entry oldest, which the
send that follows it in the same handling settles (R181). All other operations leave the notices and the destination alone. -/

/-! ### The notice queue by itself (R176) -/

/-- The law of the notice queue, with the ranges of its repeat counts. -/
structure NoticesQueued (q : List NoticeEntry) : Prop where
  few : q.length ≤ 16
  behind : ∀ e ∈ q.tail, e.awaiting = false
  distinct : ((q.filter fun e => !e.awaiting).map fun e => (e.type, e.subject)).Nodup
  repeats : ∀ e ∈ q, 1 ≤ e.repeats ∧ e.repeats ≤ 255

theorem NoticeEntry.unsentOf_iff (e : NoticeEntry) (ty : NoticeType) (subject : BitVec 16) :
    e.unsentOf ty subject = true ↔ e.awaiting = false ∧ e.type = ty ∧ e.subject = subject := by
  simp only [NoticeEntry.unsentOf, Bool.and_eq_true, Bool.not_eq_true', decide_eq_true_eq, and_assoc]

theorem any_unsentOf_eq_false {q : List NoticeEntry} {ty : NoticeType} {subject : BitVec 16} :
    q.any (·.unsentOf ty subject) = false ↔
      ∀ e ∈ q, ¬(e.awaiting = false ∧ e.type = ty ∧ e.subject = subject) := by
  simp only [List.any_eq_false, NoticeEntry.unsentOf_iff]

/-- A later report combined into an UNSENT entry: its repeat count goes up and its detail changes (R178, R179). -/
def NoticeEntry.combined (e : NoticeEntry) (d : Detail) : NoticeEntry :=
  { e with detail := d, repeats := satRepeat e.repeats }

/-- A queue with reports combined into the entries that `p` selects. -/
def combineInto (p : NoticeEntry → Bool) (d : NoticeEntry → Detail) (q : List NoticeEntry) : List NoticeEntry :=
  q.map fun e => if p e then e.combined (d e) else e

/-- The entry of a report that joins the queue (R178). -/
def Report.entry (r : Report) (number : BitVec 16) : NoticeEntry :=
  { number := number, type := r.type, subject := r.subject, detail := r.detail, repeats := 1, awaiting := false }

section
variable {q : List NoticeEntry}

theorem NoticesQueued.nil : NoticesQueued [] := ⟨Nat.zero_le _, nofun, List.nodup_nil, nofun⟩

theorem NoticesQueued.tail (h : NoticesQueued q) : NoticesQueued q.tail where
  few := (List.length_tail ▸ Nat.sub_le _ _ : q.tail.length ≤ q.length).trans h.few
  behind e he := h.behind e (List.mem_of_mem_tail he)
  distinct := (((List.tail_sublist q).filter _).map _).nodup h.distinct
  repeats e he := h.repeats e (List.mem_of_mem_tail he)

/-- What looks at the state, the type and the subject of the entries alone sees no reports combined. -/
theorem map_combineInto {α : Type} {f : NoticeEntry → α} (hf : ∀ e d, f (e.combined d) = f e) (p : NoticeEntry → Bool)
    (d : NoticeEntry → Detail) (q : List NoticeEntry) : (combineInto p d q).map f = q.map f := by
  rw [combineInto, List.map_map]
  refine List.map_congr_left fun e _ => ?_
  simp only [Function.comp]
  split
  · exact hf e _
  · rfl

theorem filter_combineInto {f : NoticeEntry → Bool} (hf : ∀ e d, f (e.combined d) = f e) (p : NoticeEntry → Bool)
    (d : NoticeEntry → Detail) (q : List NoticeEntry) : (combineInto p d q).filter f = combineInto p d (q.filter f) := by
  rw [combineInto, List.filter_map]
  refine congrArg _ (List.filter_congr fun e _ => ?_)
  simp only [Function.comp]
  split
  · exact hf e _
  · rfl

theorem NoticesQueued.combine (h : NoticesQueued q) (p : NoticeEntry → Bool) (d : NoticeEntry → Detail) :
    NoticesQueued (combineInto p d q) where
  few := by rw [combineInto, List.length_map]; exact h.few
  behind := by
    rw [combineInto, ← List.map_tail, List.forall_mem_map]
    intro e he
    split <;> exact h.behind e he
  distinct := by
    rw [filter_combineInto fun _ _ => rfl, map_combineInto fun _ _ => rfl]
    exact h.distinct
  repeats := by
    rw [combineInto, List.forall_mem_map]
    intro e he
    have hrange := h.repeats e he
    split
    · simp only [NoticeEntry.combined, satRepeat]
      omega
    · exact hrange

/-- A new UNSENT entry joins a queue with room, where no UNSENT entry has its type and subject (R178). -/
theorem NoticesQueued.append (h : NoticesQueued q) (r : Report) (number : BitVec 16) (hroom : q.length < 16)
    (hnew : q.any (·.unsentOf r.type r.subject) = false) : NoticesQueued (q ++ [r.entry number]) where
  few := by rw [List.length_append]; exact hroom
  behind := by
    cases q with
    | nil => exact nofun
    | cons x xs =>
      intro y hy
      rcases List.mem_append.1 hy with hy | hy
      · exact h.behind y hy
      · rw [List.mem_singleton.1 hy]
        rfl
  distinct := by
    rw [List.filter_append, List.map_append, List.nodup_append]
    refine ⟨h.distinct, List.nodup_singleton (r.type, r.subject), ?_⟩
    simp only [List.mem_map, List.mem_filter, Bool.not_eq_true', List.mem_singleton]
    rintro _ ⟨x, ⟨hx, hunsent⟩, rfl⟩ _ ⟨_, ⟨rfl, -⟩, rfl⟩ hsame
    obtain ⟨htype, hsubject⟩ := Prod.mk.inj hsame
    exact any_unsentOf_eq_false.1 hnew x hx ⟨hunsent, htype, hsubject⟩
  repeats := by
    intro y hy
    rcases List.mem_append.1 hy with hy | hy
    · exact h.repeats y hy
    · rw [List.mem_singleton.1 hy]
      exact ⟨Nat.le_refl 1, (by decide : 1 ≤ 255)⟩

/-- The oldest entry may become AWAITING (R181). -/
theorem NoticesQueued.sent {e : NoticeEntry} (h : NoticesQueued (e :: q)) :
    NoticesQueued ({ e with awaiting := true } :: q) where
  few := h.few
  behind := h.behind
  distinct := by
    have hrest := (((List.sublist_cons_self e q).filter fun x => !x.awaiting).map fun x => (x.type, x.subject)).nodup
      h.distinct
    exact hrest
  repeats := List.forall_mem_cons.2 ⟨h.repeats e List.mem_cons_self, fun x hx => h.repeats x (List.mem_cons_of_mem _ hx)⟩

end

/-! ### The notices with a destination (R176, R180) -/

/-- The laws but for the first of R180, so that the oldest entry may still have to be sent. -/
structure NoticesStand (d : Option Origin) (n : Notices) : Prop where
  queued : NoticesQueued n.queue
  lost : n.lost ≤ 65535
  retry : n.retry ≤ 4
  timer : n.ackTimer ≠ none ↔ d ≠ none ∧ n.unreachable = false ∧ n.oldestAwaiting = true
  flag : n.unreachable = true → d ≠ none ∧ n.oldestAwaiting = true

/-- All the laws: the oldest entry has been sent where it may be. -/
structure Delivering (d : Option Origin) (n : Notices) : Prop extends NoticesStand d n where
  sent : d ≠ none → n.unreachable = false → n.queue = [] ∨ n.oldestAwaiting = true

theorem noticeLaw_iff (s : State) : NoticeLaw s ↔ Delivering s.agent.settings.destination s.notices := by
  have holdest : s.notices.awaitingOldest ↔ s.notices.oldestAwaiting = true := s.notices.oldestAwaiting_iff.symm
  simp only [NoticeLaw, NoticeQueueLaw, DeliveryLaw, holdest]
  constructor
  · rintro ⟨⟨hfew, hbehind, hdistinct, hrepeats, hlost, hretry⟩, hsent, htimer, hflag⟩
    exact ⟨⟨⟨hfew, hbehind, hdistinct, hrepeats⟩, hlost, hretry, htimer, hflag⟩, hsent⟩
  · rintro ⟨⟨⟨hfew, hbehind, hdistinct, hrepeats⟩, hlost, hretry, htimer, hflag⟩, hsent⟩
    exact ⟨⟨hfew, hbehind, hdistinct, hrepeats, hlost, hretry⟩, hsent, htimer, hflag⟩

/-- The delivery state looks at the state of the oldest entry alone. -/
theorem Notices.oldestAwaiting_congr {n k : Notices}
    (h : n.queue.head?.map (·.awaiting) = k.queue.head?.map (·.awaiting)) : n.oldestAwaiting = k.oldestAwaiting := by
  rw [Notices.oldestAwaiting, Notices.oldestAwaiting, h]

theorem Notices.awaitingEntry_isSome (n : Notices) : n.awaitingEntry.isSome = n.oldestAwaiting := by
  unfold Notices.awaitingEntry Notices.oldestAwaiting
  cases n.queue with
  | nil => rfl
  | cons e es => cases h : e.awaiting <;> simp [h]

theorem Notices.oldestAwaiting_combine (n : Notices) (p : NoticeEntry → Bool) (d : NoticeEntry → Detail) :
    Notices.oldestAwaiting { n with queue := combineInto p d n.queue } = n.oldestAwaiting := by
  refine Notices.oldestAwaiting_congr ?_
  rw [← List.head?_map, ← List.head?_map, map_combineInto fun _ _ => rfl]

section
variable {d : Option Origin} {n : Notices}

/-- Reports combined, appended or lost leave the delivery state, when the oldest entry is AWAITING as much as it was. -/
theorem NoticesStand.requeued (h : NoticesStand d n) {q : List NoticeEntry} (hq : NoticesQueued q)
    (holdest : Notices.oldestAwaiting { n with queue := q } = n.oldestAwaiting) (next : BitVec 16) {lost : Nat}
    (hlost : lost ≤ 65535) : NoticesStand d { n with queue := q, nextNumber := next, lost := lost } := by
  have hsame : Notices.oldestAwaiting { n with queue := q, nextNumber := next, lost := lost } = n.oldestAwaiting := holdest
  exact ⟨hq, hlost, h.retry, by rw [hsame]; exact h.timer, by rw [hsame]; exact h.flag⟩

theorem NoticesStand.combine (h : NoticesStand d n) (p : NoticeEntry → Bool) (det : NoticeEntry → Detail) {lost : Nat}
    (hlost : lost ≤ 65535) :
    NoticesStand d { n with queue := combineInto p det n.queue, lost := lost } :=
  h.requeued (h.queued.combine p det) (n.oldestAwaiting_combine p det) n.nextNumber hlost

/-- A new UNSENT entry is not AWAITING, and an older one stays oldest. -/
theorem NoticesStand.append (h : NoticesStand d n) (r : Report) (hroom : n.queue.length < 16)
    (hnew : n.queue.any (·.unsentOf r.type r.subject) = false) {lost : Nat} (hlost : lost ≤ 65535) :
    NoticesStand d
      { n with queue := n.queue ++ [r.entry n.nextNumber], nextNumber := n.nextNumber + 1, lost := lost } := by
  refine h.requeued (h.queued.append r n.nextNumber hroom hnew) ?_ (n.nextNumber + 1) hlost
  cases hq : n.queue <;> simp [Notices.oldestAwaiting, hq, Report.entry]

/-- Without an AWAITING entry the timer does not run, whatever the destination (R180). -/
theorem NoticesStand.idle (hq : NoticesQueued n.queue) (hl : n.lost ≤ 65535) (hr : n.retry ≤ 4)
    (ha : n.oldestAwaiting = false) :
    NoticesStand d { n with ackTimer := none, unreachable := false } where
  queued := hq
  lost := hl
  retry := hr
  timer := ⟨fun hn => absurd rfl hn, fun ⟨_, _, hf⟩ => absurd (ha.symm.trans hf) Bool.false_ne_true⟩
  flag := nofun

/-- The removal of the oldest entry leaves none AWAITING (R183). -/
theorem NoticesStand.removed (h : NoticesStand d n) :
    NoticesStand d { n with queue := n.queue.tail, ackTimer := none, unreachable := false } := by
  have holdest : Notices.oldestAwaiting { n with queue := n.queue.tail } = false := by
    cases hq : n.queue.tail with
    | nil => rfl
    | cons e es => exact h.queued.behind e (hq ▸ List.mem_cons_self)
  exact .idle (n := { n with queue := n.queue.tail }) h.queued.tail h.lost h.retry holdest

/-- Without a destination the timer does not run, and nothing is sent (R180, R185). -/
theorem NoticesStand.halted (h : NoticesStand d n) : Delivering none { n with ackTimer := none, unreachable := false } where
  queued := h.queued
  lost := h.lost
  retry := h.retry
  timer := ⟨fun hn => absurd rfl hn, fun ⟨hn, _⟩ => absurd rfl hn⟩
  flag := nofun
  sent hn := absurd rfl hn

/-- With an AWAITING entry and a destination, delivery is AWAITING once the timer runs (R181, R182, R184, R185). -/
theorem Delivering.restarted (hq : NoticesQueued n.queue) (hl : n.lost ≤ 65535) {o : Origin}
    (holdest : n.oldestAwaiting = true) {retry : Nat} (hretry : retry ≤ 4) (period : BitVec 16) :
    Delivering (some o) { n with retry := retry, ackTimer := some period, unreachable := false } where
  queued := hq
  lost := hl
  retry := hretry
  timer := ⟨fun _ => ⟨nofun, rfl, holdest⟩, fun _ => nofun⟩
  flag := nofun
  sent _ _ := .inr holdest

/-- When the entry has been resent in vain, delivery is UNREACHABLE (R182). -/
theorem NoticesStand.gaveUp (h : NoticesStand d n) {o : Origin} (holdest : n.oldestAwaiting = true) :
    Delivering (some o) { n with unreachable := true, ackTimer := none } where
  queued := h.queued
  lost := h.lost
  retry := h.retry
  timer := ⟨fun hn => absurd rfl hn, fun ⟨_, hu, _⟩ => absurd hu.symm Bool.false_ne_true⟩
  flag _ := ⟨nofun, holdest⟩
  sent _ hu := absurd hu.symm Bool.false_ne_true

end

/-! ### The operations of the Notice Unit (R178 to R185) -/

/-- There is no destination, delivery is UNREACHABLE, or no UNSENT entry is oldest (R181). -/
def State.sendsNothing (s : State) : Prop :=
  s.agent.settings.destination = none ∨ s.notices.unreachable = true ∨
    ∀ e, s.notices.queue.head? = some e → e.awaiting = true

theorem State.sendOldest_idle {s : State} (h : s.sendsNothing) : s.sendOldest = s := by
  unfold State.sendOldest
  split
  · rename_i o e es hd hq
    have hkept : (e.awaiting || s.notices.unreachable) = true := by
      rcases h with h | h | h
      · exact absurd (h.symm.trans hd) nofun
      · rw [h, Bool.or_true]
      · rw [h e (by rw [hq]; rfl), Bool.true_or]
    rw [if_pos hkept]
  · rfl

/-- Otherwise the oldest entry is to be sent. -/
theorem State.exists_toSend {s : State} (h : ¬s.sendsNothing) :
    ∃ o e es, s.agent.settings.destination = some o ∧ s.notices.queue = e :: es ∧ e.awaiting = false ∧
      s.notices.unreachable = false := by
  simp only [State.sendsNothing, not_or, not_forall, Bool.not_eq_true] at h
  obtain ⟨hd, hu, e, he, ha⟩ := h
  obtain ⟨o, ho⟩ := Option.ne_none_iff_exists'.1 hd
  obtain ⟨es, hq⟩ := List.head?_eq_some_iff.1 he
  exact ⟨o, e, es, ho, hq, ha, hu⟩

section
variable {s : State}

/-- A send settles what is still to be sent (R181). -/
theorem NoticesStand.sendOldest (h : NoticesStand s.agent.settings.destination s.notices) : NoticeLaw s.sendOldest := by
  by_cases hidle : s.sendsNothing
  · rw [State.sendOldest_idle hidle]
    refine (noticeLaw_iff s).2 ⟨h, fun hd hu => ?_⟩
    rcases hidle with hnone | hunreachable | hall
    · exact absurd hnone hd
    · exact absurd (hu.symm.trans hunreachable) nofun
    · rw [Notices.oldestAwaiting]
      cases hq : s.notices.queue with
      | nil => exact .inl rfl
      | cons e es => exact .inr (hall e (by rw [hq]; rfl))
  · obtain ⟨o, e, es, hd, hq, ha, hu⟩ := State.exists_toSend hidle
    have hqueued : NoticesQueued (e :: es) := hq ▸ h.queued
    have hsent := Delivering.restarted (n := { s.notices with queue := { e with awaiting := true } :: es }) (o := o)
      hqueued.sent h.lost rfl (Nat.zero_le 4) s.agent.settings.ackTimeout
    rw [← hu, ← hd] at hsent
    rw [noticeLaw_iff, s.sendOldest_agent, State.sendOldest_unsent hd hq ha hu]
    exact hsent

theorem NoticeLaw.takeReport (h : NoticeLaw s) (r : Report) : NoticeLaw (s.takeReport r) := by
  have hs := (noticeLaw_iff s).1 h
  unfold State.takeReport
  dsimp only
  split
  · have hcombined := hs.combine (·.unsentOf r.type r.subject) (fun _ => r.detail) hs.lost
    have holdest := s.notices.oldestAwaiting_combine (·.unsentOf r.type r.subject) fun _ => r.detail
    exact (noticeLaw_iff _).2 ⟨hcombined, fun hd hu => (hs.sent hd hu).imp (fun hq => congrArg (List.map _) hq) holdest.trans⟩
  · rename_i hnew
    split
    · rename_i hroom
      exact NoticesStand.sendOldest (hs.append r hroom (Bool.eq_false_iff.2 hnew) hs.lost)
    · have hlost := hs.requeued hs.queued rfl s.notices.nextNumber (Nat.min_le_left 65535 (s.notices.lost + 1))
      exact (noticeLaw_iff _).2 ⟨hlost, hs.sent⟩

theorem State.accountLost_agent (s : State) : s.accountLost.agent = s.agent := by
  unfold State.accountLost
  split
  · rfl
  · split <;> rfl

/-- Lost reports are accounted for in a queue with room (R179). -/
theorem NoticesStand.accountLost {d : Option Origin} (h : NoticesStand d s.notices) (hroom : s.notices.queue.length < 16) :
    NoticesStand d s.accountLost.notices := by
  unfold State.accountLost
  split
  · exact h
  · split
    · exact h.combine (·.unsentOf .noticesLost 0) (fun e => addLost e.detail s.notices.lost) (Nat.zero_le _)
    · rename_i hnew
      exact h.append _ hroom (Bool.eq_false_iff.2 hnew) (Nat.zero_le _)

theorem NoticeLaw.takeAck (h : NoticeLaw s) (o : Origin) (number : BitVec 16) : NoticeLaw (s.takeAck o number) := by
  have hs := (noticeLaw_iff s).1 h
  unfold State.takeAck
  dsimp only
  split
  · rename_i e he
    split
    · have hroom : s.notices.queue.tail.length < 16 := by
        have hfew := hs.queued.few
        rw [List.length_tail]
        omega
      refine NoticesStand.sendOldest ?_
      rw [State.accountLost_agent]
      exact hs.removed.accountLost hroom
    · exact h
  · exact h

/-- A resend to the destination makes delivery AWAITING (R182, R184, R185). -/
theorem NoticeLaw.resent {o : Origin} {e : NoticeEntry} {k : Nat} (hd : s.agent.settings.destination = some o)
    (hu : s.notices.unreachable = false) (hq : NoticesQueued s.notices.queue) (hl : s.notices.lost ≤ 65535)
    (ha : s.notices.awaitingEntry = some e) (hk : k ≤ 4) : NoticeLaw (s.resendNotice o e k) := by
  have holdest : s.notices.oldestAwaiting = true := by rw [← s.notices.awaitingEntry_isSome, ha]; rfl
  obtain ⟨-, hagent, -⟩ := s.resendNotice_frame o e k
  have hresent := Delivering.restarted (o := o) hq hl holdest hk s.agent.settings.ackTimeout
  rw [← hu] at hresent
  rw [noticeLaw_iff, hagent, hd, State.resendNotice_notices]
  exact hresent

theorem NoticeLaw.contact (h : NoticeLaw s) (o : Origin) : NoticeLaw (s.contact o) := by
  have hs := (noticeLaw_iff s).1 h
  unfold State.contact
  split
  · rename_i e _ he
    split
    · rename_i hd
      exact NoticeLaw.resent (s := s.reachable) hd rfl hs.queued hs.lost he (Nat.zero_le 4)
    · exact h
  · exact h

/-- The destination has been selected: the laws that held with the old one are brought to hold with the new one (R185). -/
theorem NoticesStand.destinationSelected {d : Option Origin} (h : NoticesStand d s.notices) :
    NoticeLaw s.destinationSelected := by
  unfold State.destinationSelected
  dsimp only
  split
  · rename_i hd
    exact (noticeLaw_iff _).2 (hd ▸ h.halted)
  · rename_i o hd
    split
    · rename_i e he
      exact NoticeLaw.resent (s := s.reachable) hd rfl h.queued h.lost he (Nat.zero_le 4)
    · rename_i hnone
      have holdest : s.notices.oldestAwaiting = false := by rw [← s.notices.awaitingEntry_isSome, hnone]; rfl
      have hstopped : s.notices.ackTimer = none := by
        by_contra hn
        obtain ⟨-, -, ha⟩ := h.timer.1 hn
        exact absurd (holdest.symm.trans ha) nofun
      have hidle := NoticesStand.idle (d := s.agent.settings.destination) h.queued h.lost h.retry holdest
      rw [← hstopped] at hidle
      exact NoticesStand.sendOldest (s := s.reachable) hidle

theorem execAckTimerExpiry_noticeLaw (h : NoticeLaw s) : Leaves (execAckTimerExpiry s) NoticeLaw := by
  have hs := (noticeLaw_iff s).1 h
  unfold execAckTimerExpiry
  split
  · rename_i e o _ htimer he hd
    split
    · rename_i hretry
      obtain ⟨-, hu, -⟩ := hs.timer.1 (by rw [htimer]; nofun)
      exact leaves_next.2 (.resent hd hu hs.queued hs.lost he hretry)
    · have holdest : s.notices.oldestAwaiting = true := by rw [← s.notices.awaitingEntry_isSome, he]; rfl
      refine leaves_next.2 ((noticeLaw_iff _).2 ?_)
      exact hd.symm ▸ hs.gaveUp holdest
  · exact leaves_next.2 h

end

end Sys2Proof.Machine
end

section
namespace Sys2Proof.Machine

/-! ### What leaves the notices and the destination alone -/

/-- All that the laws of O8 look at. -/
def State.noticeView (s : State) : Option Origin × Notices := (s.agent.settings.destination, s.notices)

theorem State.noticeView_of_eq {s t : State} (hs : t.agent.settings = s.agent.settings) (hn : t.notices = s.notices) :
    t.noticeView = s.noticeView := by
  rw [State.noticeView, State.noticeView, hs, hn]

theorem State.notices_of_view {s t : State} (h : t.noticeView = s.noticeView) : t.notices = s.notices := congrArg Prod.snd h

theorem NoticeLaw.congr {s t : State} (h : NoticeLaw s) (hv : t.noticeView = s.noticeView) : NoticeLaw t := by
  obtain ⟨hd, hn⟩ := Prod.mk.inj hv
  rw [noticeLaw_iff, hd, hn]
  exact (noticeLaw_iff s).1 h

theorem foldl_noticeView {α : Type} {f : State → α → State} (h : ∀ s a, (f s a).noticeView = s.noticeView) (l : List α)
    (s : State) : (l.foldl f s).noticeView = s.noticeView := by
  induction l generalizing s with
  | nil => rfl
  | cons a rest ih => exact (ih _).trans (h s a)

section
variable (s : State)

/-! ### Queues, counters and records -/

@[simp] theorem State.noticeView_countRx (f : RxCounters → RxCounters) : (s.countRx f).noticeView = s.noticeView := rfl

@[simp] theorem State.noticeView_countSteer (f : SteerCounters → SteerCounters) :
    (s.countSteer f).noticeView = s.noticeView := rfl

@[simp] theorem State.noticeView_onPort (n : PortId) (f : Port → Port) : (s.onPort n f).noticeView = s.noticeView := rfl

@[simp] theorem State.noticeView_countPort (n : PortId) (f : PortCounters → PortCounters) :
    (s.countPort n f).noticeView = s.noticeView := rfl

@[simp] theorem State.noticeView_flush (q : QueueId) : (s.flush q).noticeView = s.noticeView := rfl

@[simp] theorem State.noticeView_setEntries (q : QueueId) (es : List Entry) :
    (s.setEntries q es).noticeView = s.noticeView := rfl

@[simp] theorem State.noticeView_writeContent (n : Nat) (c : Content) : (s.writeContent n c).noticeView = s.noticeView := rfl

@[simp] theorem State.noticeView_claim (q : QueueId) (e : Entry) : (s.claim q e).1.noticeView = s.noticeView :=
  State.noticeView_of_eq (by rw [s.claim_agent]) (s.claim_notices q e)

@[simp] theorem State.noticeView_offer (q : QueueId) (c : Cell) (x : Source) : (s.offer q c x).noticeView = s.noticeView :=
  s.noticeView_claim q _

@[simp] theorem State.noticeView_offerAdd (n : PortId) (c : Cell) (m : Bool) :
    (s.offerAdd n c m).1.noticeView = s.noticeView := s.noticeView_claim _ _

theorem State.noticeView_writeVerified (n : Nat) (c : Content) (v : Verify) :
    (s.writeVerified n c v).1.noticeView = s.noticeView := by
  cases v <;> rfl

/-! ### Steering -/

@[simp] theorem State.noticeView_sendOn (c : Cell) : (s.sendOn c).noticeView = s.noticeView := by
  unfold State.sendOn
  split <;> simp

@[simp] theorem State.noticeView_act (c : Cell) (r : Content) (a : Action) : (s.act c r a).noticeView = s.noticeView := by
  cases a <;> simp [State.act]

theorem State.noticeView_unknownTag (c : Cell) : (s.unknownTag c).noticeView = s.noticeView := by
  unfold State.unknownTag
  split
  · split <;> simp
  · rfl

@[simp] theorem State.noticeView_reportSpent (n : Nat) (c : Content) : (s.reportSpent n c).noticeView = s.noticeView := by
  unfold State.reportSpent
  split <;> rfl

@[simp] theorem State.noticeView_reportGap (n : Nat) (c : Content) (x : Byte) :
    (s.reportGap n c x).noticeView = s.noticeView := by
  unfold State.reportGap
  split
  · split <;> rfl
  · rfl

@[simp] theorem State.noticeView_lookup (c : Cell) : (s.lookup c).noticeView = s.noticeView := by
  unfold State.lookup
  dsimp only
  split
  · split
    · exact s.noticeView_unknownTag c
    iterate 3 rfl
    · simp
  · rfl

theorem State.noticeView_holdCell (c : Cell) : (s.holdCell c).noticeView = s.noticeView := by
  have h := s.noticeView_claim hq { cell := c, source := .trunk, marked := false }
  unfold State.holdCell
  split <;> rename_i hc <;> rw [hc] at h <;> exact h

theorem State.noticeView_steerTrunk (c : Cell) : (s.steerTrunk c).noticeView = s.noticeView := by
  unfold State.steerTrunk
  dsimp only
  split
  · exact s.noticeView_holdCell c
  · split
    · simp
    · unfold State.meetPolicy
      split
      iterate 2 exact s.noticeView_holdCell c
      · split <;> simp
      · rfl
    iterate 2 rfl

@[simp] theorem State.noticeView_addFails (n : PortId) (tag : Nat) (r : Record) :
    (s.addFails n tag r).noticeView = s.noticeView := by
  unfold State.addFails
  split
  · split <;> rfl
  · rfl

@[simp] theorem State.noticeView_addCharge (tag : Nat) (r : Content) (a : Action) :
    (s.addCharge tag r a).noticeView = s.noticeView := State.noticeView_reportSpent _ _ _

theorem State.noticeView_addMeetsPolicy (n : PortId) (c : Cell) : (s.addMeetsPolicy n c).noticeView = s.noticeView := by
  have h {x : Cell} {m : Bool} {p : State × Bool} (hp : s.offerAdd n x m = p) : p.1.noticeView = s.noticeView :=
    hp ▸ s.noticeView_offerAdd n x m
  unfold State.addMeetsPolicy
  split
  iterate 3 split <;> rename_i hc <;> exact h hc
  · rfl

theorem State.noticeView_steerAdd (n : PortId) (c : Cell) : (s.steerAdd n c).noticeView = s.noticeView := by
  unfold State.steerAdd
  split
  · unfold State.addCheck
    dsimp only
    split <;> simp
  · exact s.noticeView_addMeetsPolicy n c
  iterate 2 rfl

theorem State.noticeView_deferredCheck (n : PortId) : (s.deferredCheck n).noticeView = s.noticeView := by
  unfold State.deferredCheck
  split
  · rfl
  · split
    · dsimp only
      split
      · simp
      · exact s.noticeView_addFails _ _ _
    · rfl

theorem noticeView_deferredChecks (fuel : Nat) (n : PortId) : (deferredChecks fuel n s).noticeView = s.noticeView := by
  induction fuel generalizing s with
  | zero => rfl
  | succ fuel ih => exact (ih _).trans (s.noticeView_deferredCheck n)

theorem State.noticeView_allDeferred (order : List PortId) : (s.allDeferred order).noticeView = s.noticeView := by
  unfold State.allDeferred
  refine (foldl_noticeView (fun u n => noticeView_deferredChecks u _ n) allFour _).trans ?_
  exact foldl_noticeView State.noticeView_deferredCheck order s

/-! ### The Agent, and the lease -/

/-- What is within the frame of every request keeps the settings (R147). -/
theorem RequestFrame.noticeView {s t : State} (h : RequestFrame s t) (hn : t.notices = s.notices) :
    t.noticeView = s.noticeView := State.noticeView_of_eq h.settings hn

theorem noticeView_settleHands (hs : List HandCell) : (settleHands hs s).noticeView = s.noticeView := by
  obtain ⟨hframe, -, -, hnotices⟩ := settleHands_frame hs s
  exact hframe.noticeView hnotices

theorem State.noticeView_giveAgent (m : HandCell) : (s.giveAgent m).noticeView = s.noticeView :=
  noticeView_settleHands s _

theorem State.noticeView_entered (m : HandCell) (rest : List HandCell) : (s.entered m rest).noticeView = s.noticeView :=
  (s.entered_sameBlocks m rest).frame.noticeView (s.entered_notices m rest)

theorem State.noticeView_offerResponse (o : Origin) (c : Cell) : (s.offerResponse o c).noticeView = s.noticeView :=
  (RequestFrame.offerResponse s o c).noticeView (s.offerResponse_notices o c)

theorem State.noticeView_respond (r : Request) (st : Status) (body : List Byte) :
    (s.respond r st body).noticeView = s.noticeView := State.noticeView_offerResponse _ _ _

theorem State.noticeView_renewFor (o : Origin) : (s.renewFor o).noticeView = s.noticeView := by
  unfold State.renewFor
  split <;> rfl

theorem State.noticeView_readLease : s.readLease.1.noticeView = s.noticeView := by
  unfold State.readLease
  split <;> rfl

/-! ### The ports -/

@[simp] theorem State.noticeView_movePort (n : PortId) (x : PortState) : (s.movePort n x).noticeView = s.noticeView := rfl

@[simp] theorem State.noticeView_enterAligning (n : PortId) : (s.enterAligning n).noticeView = s.noticeView := rfl

@[simp] theorem State.noticeView_tryAlign (n : PortId) : (s.tryAlign n).noticeView = s.noticeView := by
  unfold State.tryAlign
  split <;> rfl

@[simp] theorem State.noticeView_leaveUp (n : PortId) : (s.leaveUp n).noticeView = s.noticeView := by
  unfold State.leaveUp
  dsimp only
  split <;> simp

@[simp] theorem State.noticeView_leaveFor (n : PortId) (x : PortState) : (s.leaveFor n x).noticeView = s.noticeView := by
  unfold State.leaveFor
  split
  iterate 2 simp
  iterate 2 split <;> rfl

theorem State.noticeView_onAlign (n : PortId) : (s.onAlign n).noticeView = s.noticeView := by
  unfold State.onAlign
  split
  · simp
  iterate 3 rfl

theorem State.noticeView_onAlignAck (n : PortId) (token : Byte) : (s.onAlignAck n token).noticeView = s.noticeView := by
  unfold State.onAlignAck
  split <;> rfl

theorem State.noticeView_onCredit (n : PortId) (amount : Byte) : (s.onCredit n amount).noticeView = s.noticeView := by
  unfold State.onCredit
  split
  · split
    · rfl
    · split <;> rfl
  · rfl

theorem State.noticeView_onLink (n : PortId) (c : Cell) : (s.onLink n c).noticeView = s.noticeView := by
  unfold State.onLink
  split
  · exact s.noticeView_onAlign n
  · split
    · exact s.noticeView_onAlignAck n _
    · split
      · exact s.noticeView_onCredit n _
      · rfl

theorem State.noticeView_onPortCell (n : PortId) (c : Cell) : (s.onPortCell n c).noticeView = s.noticeView := by
  unfold State.onPortCell
  split
  · rfl
  · split
    · unfold State.onAddData
      split
      · rfl
      · exact State.noticeView_steerAdd _ n c
    · rfl
  · split
    · unfold State.onPortMgmt
      split
      · exact State.noticeView_giveAgent _ _
      · rfl
    · rfl
  · exact s.noticeView_onLink n c

theorem State.noticeView_portArrive (n : PortId) (bytes : List Byte) :
    (s.portArrive n bytes).noticeView = s.noticeView := by
  cases hw : portWellFormed bytes with
  | true => rw [s.portArrive_of_wellFormed n hw]; exact State.noticeView_onPortCell _ n _
  | false =>
    obtain ⟨f, hf⟩ := s.portArrive_of_malformed n hw
    rw [hf]; rfl

theorem State.noticeView_portOpportunity (n : PortId) : (s.portOpportunity n).noticeView = s.noticeView := by
  unfold State.portOpportunity
  dsimp only
  split
  · rfl
  · split
    · rfl
    · split
      · rfl
      · split <;> rfl

theorem State.noticeView_resetPort (n : PortId) : (s.resetPort n).noticeView = s.noticeView := by
  unfold State.resetPort
  split <;> simp

/-! ### The trunk -/

theorem State.noticeView_onTrunkCell (c : Cell) : (s.onTrunkCell c).noticeView = s.noticeView := by
  unfold State.onTrunkCell
  split
  · rfl
  · unfold State.trunkData
    split
    · exact State.noticeView_steerTrunk _ c
    · split <;> simp
  · unfold State.trunkMgmt
    split
    · rfl
    · exact State.noticeView_giveAgent _ _
    · split <;> simp
  · rfl

theorem State.noticeView_trunkArrive (bytes : List Byte) : (s.trunkArrive bytes).noticeView = s.noticeView := by
  cases hw : trunkWellFormed bytes with
  | true => rw [s.trunkArrive_of_wellFormed hw]; exact State.noticeView_onTrunkCell _ _
  | false =>
    obtain ⟨f, hf⟩ := s.trunkArrive_of_malformed hw
    rw [hf]; rfl

/-! ### The batch and its edits -/

theorem State.noticeView_applyDecided (p n : Nat) (decision : Content → Option Content) (v : Verify) :
    (s.applyDecided p n decision v).noticeView = s.noticeView := by
  unfold State.applyDecided
  dsimp only
  split
  · split
    · rfl
    · exact s.noticeView_writeVerified n _ v
  · rfl

theorem noticeView_clearRun (vs : List (UsableTag × Verify)) (tags : List Nat) (failed : Option Nat) :
    (clearRun vs tags (s, failed)).1.noticeView = s.noticeView := by
  induction tags generalizing s failed with
  | nil => rfl
  | cons n rest ih => exact (ih _ _).trans (s.noticeView_writeVerified n _ _)

theorem State.noticeView_applyClearBank (p : Nat) (b : BankId) (vs : List (UsableTag × Verify)) :
    (s.applyClearBank p b vs).noticeView = s.noticeView := by
  have h := noticeView_clearRun s vs (bankTags b) none
  unfold State.applyClearBank
  split <;> rename_i hc <;> rw [hc] at h <;> exact h

theorem State.noticeView_discardOpen : s.discardOpen.noticeView = s.noticeView := by
  unfold State.discardOpen
  split <;> rfl

theorem State.noticeView_finishBatch (st : Status) (applied : List BankId) (os : List Outcome) :
    (s.finishBatch st applied os).noticeView = s.noticeView := by
  have hsignal (t : State) : t.batchEndSignal.noticeView = t.noticeView := by
    unfold State.batchEndSignal
    split <;> rfl
  refine (hsignal _).trans ?_
  split
  · exact State.noticeView_offerResponse _ _ _
  · rfl

theorem State.noticeView_tryStart : s.tryStart.noticeView = s.noticeView := by
  unfold State.tryStart State.startApply
  split
  · split
    · rfl
    · exact s.noticeView_finishBatch _ _ _
  · rfl

theorem State.noticeView_bankEnd (b : BankId) : (s.bankEnd b).noticeView = s.noticeView := by
  unfold State.bankEnd
  dsimp only
  split
  · split
    · exact State.noticeView_finishBatch _ _ _ _
    · rfl
  · exact State.noticeView_finishBatch _ _ _ _

theorem State.noticeView_clearBankEnd (b : BankId) : (s.clearBankEnd b).noticeView = s.noticeView := by
  unfold State.clearBankEnd
  dsimp only
  split
  · rfl
  · exact foldl_noticeView State.noticeView_tryAlign allFour _

end

end Sys2Proof.Machine
end

section
namespace Sys2Proof.Machine

/-! ### The requests (R147) -/

section
variable {s : State}

theorem NoticeLaw.follow (h : NoticeLaw s) (leased : Bool) (o : Origin) : NoticeLaw (s.follow leased o) := by
  refine NoticeLaw.contact (h.congr ?_) o
  split
  · exact s.noticeView_renewFor o
  · rfl

theorem NoticeLaw.takeResetReports (h : NoticeLaw s) : NoticeLaw s.takeResetReports :=
  List.foldlRecOn (s.handed.filter Handed.ofReset) (fun (t : State) (x : Handed) => t.takeReport x.report)
    (NoticeLaw.congr (t := { s with handed := s.handed.filter fun x => !x.ofReset }) h rfl)
    fun _ ht x _ => ht.takeReport x.report

theorem NoticeLaw.concluded (h : NoticeLaw s) (leased : Bool) (r : Request) (reply : Reply) :
    NoticeLaw (s.concluded leased r reply) := by
  cases reply with
  | answer st body => exact (h.congr (s.noticeView_respond r st body)).follow leased r.origin
  | accepted => exact h.follow leased r.origin
  | reset body =>
    exact ((h.congr (s.noticeView_respond r .ok body)).follow leased r.origin).takeResetReports

/-- A request keeps the laws when its block does. -/
theorem NoticeLaw.takeRequest {mine : Byte → Bool} {handler : Request → State → State × Reply}
    (hh : ∀ r e, NoticeLaw e → NoticeLaw (handler r e).1) (h : NoticeLaw s) : NoticeLaw (s.takeRequest mine handler) := by
  unfold State.takeRequest
  split
  · exact h
  · rename_i m rest _
    split
    · have hentered : NoticeLaw (s.entered m rest) := h.congr (s.noticeView_entered m rest)
      have hhandled : NoticeLaw ((s.entered m rest).handled m.cell.bodyMisfits m.request handler).1 := by
        rcases (s.entered m rest).handled_cases m.cell.bodyMisfits m.request handler with hc | hc <;> rw [hc]
        · exact hentered
        · exact hh _ _ hentered
      exact (hhandled.concluded _ _ _).congr (noticeView_settleHands _ _)
    · exact h

/-- A request keeps the laws when its block leaves the notices and the destination alone. -/
theorem NoticeLaw.takeRequest_of_view {mine : Byte → Bool} {handler : Request → State → State × Reply}
    (hh : ∀ r e, (handler r e).1.noticeView = e.noticeView) (h : NoticeLaw s) : NoticeLaw (s.takeRequest mine handler) :=
  h.takeRequest fun r e he => he.congr (hh r e)

end

section
variable (r : Request) (s : State)

theorem handleNodeQuery_noticeView : (handleNodeQuery r s).1.noticeView = s.noticeView := by
  unfold handleNodeQuery
  split
  · rfl
  · exact s.noticeView_readLease

theorem handleQueueSet_noticeView : (handleQueueSet r s).1.noticeView = s.noticeView := by
  unfold handleQueueSet
  split
  · split
    · rfl
    · dsimp only
      generalize (if (addQueuePort _).isSome = true then _ else _) = ceiling
      split
      · rfl
      · split
        · rfl
        · split
          · rfl
          · split <;> rfl
  · rfl

theorem handleQueueFlush_noticeView : (handleQueueFlush r s).1.noticeView = s.noticeView := by
  unfold handleQueueFlush
  split
  · split
    · rfl
    · dsimp only
      split
      · exact (State.noticeView_tryStart _).trans (s.noticeView_flush _)
      · rfl
  · rfl

theorem handlePortSet_noticeView : (handlePortSet r s).1.noticeView = s.noticeView := by
  unfold handlePortSet
  split
  · split
    · rfl
    · rename_i n _
      dsimp only
      split
      · rfl
      · dsimp only
        split
        · split
          · rfl
          · exact s.noticeView_leaveFor n .off
        · split
          · exact (State.noticeView_tryAlign _ n).trans (s.noticeView_movePort n .down)
          · rfl
  · rfl

theorem handleCountersClear_noticeView : (handleCountersClear r s).1.noticeView = s.noticeView := by
  unfold handleCountersClear
  split <;> rfl

theorem handleAssignAddress_noticeView : (handleAssignAddress r s).1.noticeView = s.noticeView := by
  unfold handleAssignAddress
  split
  · split
    · rfl
    · split <;> rfl
  · rfl

theorem handleBatchOpen_noticeView : (handleBatchOpen r s).1.noticeView = s.noticeView := by
  unfold handleBatchOpen
  split
  · split
    · rfl
    · split
      · rfl
      · split <;> rfl
  · rfl

theorem handleBatchEdit_noticeView : (handleBatchEdit r s).1.noticeView = s.noticeView := by
  unfold handleBatchEdit
  dsimp only
  split
  · rfl
  · split
    · rfl
    · split
      · rfl
      · split <;> rfl

theorem handleBatchCommit_noticeView : (handleBatchCommit r s).1.noticeView = s.noticeView := by
  unfold handleBatchCommit
  split
  · split
    iterate 3 rfl
    · split
      · rfl
      · split
        · rfl
        · split
          · rfl
          · exact State.noticeView_tryStart _
  · rfl

theorem handleBatchAbort_noticeView : (handleBatchAbort r s).1.noticeView = s.noticeView := by
  unfold handleBatchAbort
  split
  · split
    · rfl
    · split
      · rfl
      · rfl
      · exact s.noticeView_finishBatch _ _ _
      · rfl
  · rfl

theorem handleLeaseTake_noticeView : (handleLeaseTake r s).1.noticeView = s.noticeView := by
  unfold handleLeaseTake
  split
  · split
    · rfl
    · split
      · rfl
      · split
        · rfl
        · split
          · exact s.noticeView_readLease
          · split
            · rfl
            · exact s.noticeView_discardOpen
  · rfl

theorem handleLeaseRenew_noticeView : (handleLeaseRenew r s).1.noticeView = s.noticeView := by
  unfold handleLeaseRenew
  split
  · rfl
  · split <;> rfl

theorem handleLeaseGive_noticeView : (handleLeaseGive r s).1.noticeView = s.noticeView := by
  unfold handleLeaseGive
  split
  · rfl
  · split
    · rfl
    · split <;> rfl

/-- A NODE_SET changes the destination only where it tells the Notice Unit of it (R154, R185). -/
theorem NoticeLaw.nodeSet {s : State} (h : NoticeLaw s) : NoticeLaw (handleNodeSet r s).1 := by
  have hs := (noticeLaw_iff s).1 h
  unfold handleNodeSet
  split
  · split
    · exact h
    · dsimp only
      split
      · refine NoticesStand.destinationSelected (d := s.agent.settings.destination) ?_
        exact hs.toNoticesStand
      · rename_i hkept
        exact h.congr (congrArg (·, s.notices) (if_neg hkept))
  · exact h

/-- An empty notice queue meets the laws, whatever the destination (R188, R195). -/
theorem NoticeLaw.of_emptied {s : State} {next : BitVec 16} (h : s.notices = { Notices.reset with nextNumber := next }) :
    NoticeLaw s := by
  rw [noticeLaw_iff, h]
  exact ⟨.idle (n := { Notices.reset with nextNumber := next }) .nil (Nat.zero_le _) (Nat.zero_le _) rfl,
    fun _ _ => .inl rfl⟩

/-- The Notice Unit that NODE_RESET leaves keeps its next number alone (R195). -/
theorem State.nodeReset_notices : (s.nodeReset r).notices = { Notices.reset with nextNumber := s.notices.nextNumber } := by
  have hflushed (u : State) : (allQueues.foldl State.flush u).notices = u.notices :=
    State.notices_of_view (foldl_noticeView State.noticeView_flush allQueues u)
  have hports (u : State) : (allFour.foldl State.resetPort u).notices = u.notices :=
    State.notices_of_view (foldl_noticeView State.noticeView_resetPort allFour u)
  have hcleared (u : State) : u.clearCounters.notices = u.notices := rfl
  simp only [State.nodeReset, hcleared, hports, hflushed]
  rfl

theorem NoticeLaw.nodeReset {s : State} (h : NoticeLaw s) : NoticeLaw (handleNodeReset r s).1 := by
  unfold handleNodeReset
  split
  · exact h
  · exact .of_emptied (s.nodeReset_notices r)

end

/-! ### Every command keeps the laws -/

/-- The commands of the blocks beside the Notice Unit, but for the requests: none changes the notices or the destination. -/
def noticeQuiet : Instr → Bool
  | .hardwareResetEnd _ _ | .recordDamage _ _ | .tinSignalPresent | .tinSignalLost _ | .tinArrival _
  | .applyStart | .write _ | .clear _ | .refill _ | .bar _ | .unbar _ | .clearBank _ | .bankEnd | .startUpClear _
  | .toutOpportunity _ | .holdQueueDrain | .portSignalPresent _ | .portSignalLost _ _ | .portArrival _ _ | .align _
  | .alignAck _ _ | .credit _ _ | .portOpportunity _ | .resendTimerExpiry _ | .stallTimerExpiry _ | .silenceTimeout _
  | .leaseTimerExpiry => true
  | _ => false

theorem execStartUpClear_noticeView (v : Verify) (s : State) :
    Leaves (execStartUpClear v s) fun t => t.noticeView = s.noticeView := by
  have hw := s.noticeView_writeVerified s.clearNext Content.cleared v
  unfold execStartUpClear
  dsimp only
  generalize (s.writeVerified s.clearNext Content.cleared v).1 = t at hw
  refine .ite ?_ rfl
  split
  · exact (State.noticeView_clearBankEnd _ _).trans hw
  · exact hw

theorem execPortSignalLost_noticeView (n : PortId) (begun : Bool) (s : State) :
    Leaves (execPortSignalLost n begun s) fun t => t.noticeView = s.noticeView := by
  unfold execPortSignalLost
  split
  · exact leaves_next.2 rfl
  · dsimp only
    split
    iterate 2 exact leaves_next.2 ((State.noticeView_leaveFor _ n .down).trans (s.noticeView_onPort n _))
    iterate 2 exact leaves_next.2 (s.noticeView_onPort n _)

theorem execBankEnd_noticeView (s : State) : Leaves (execBankEnd s) fun t => t.noticeView = s.noticeView := by
  unfold execBankEnd
  split
  · split
    · exact leaves_next.2 (s.noticeView_bankEnd _)
    · exact leaves_next.2 rfl
  · exact leaves_next.2 rfl

theorem execLeaseTimerExpiry_noticeView (s : State) :
    Leaves (execLeaseTimerExpiry s) fun t => t.noticeView = s.noticeView := by
  unfold execLeaseTimerExpiry
  split
  · split
    iterate 2 exact leaves_next.2 s.noticeView_discardOpen
    iterate 2 exact leaves_next.2 rfl
  · exact leaves_next.2 rfl

theorem exec_noticeView {i : Instr} (h : noticeQuiet i = true) (s : State) :
    Leaves (exec i s) fun t => t.noticeView = s.noticeView := by
  cases i with
  | hardwareResetEnd naddr lmgt => exact .ite rfl rfl
  | recordDamage tag c => exact .ite rfl rfl
  | tinSignalPresent => exact .ite rfl rfl
  | tinSignalLost begun => exact .ite rfl rfl
  | tinArrival bytes => exact .ite (s.noticeView_trunkArrive bytes) rfl
  | applyStart => exact .ite rfl s.noticeView_tryStart
  | write v =>
    simp only [exec, execWrite]
    split
    · exact leaves_next.2 (s.noticeView_writeVerified _ _ v)
    · exact leaves_next.2 rfl
  | clear v =>
    simp only [exec, execClear]
    split
    · exact leaves_next.2 (s.noticeView_writeVerified _ _ v)
    · exact leaves_next.2 rfl
  | refill v =>
    simp only [exec, execRefill]
    split
    · exact leaves_next.2 (s.noticeView_applyDecided _ _ _ v)
    · exact leaves_next.2 rfl
  | bar v =>
    simp only [exec, execBar]
    split
    · exact leaves_next.2 (s.noticeView_applyDecided _ _ _ v)
    · exact leaves_next.2 rfl
  | unbar v =>
    simp only [exec, execUnbar]
    split
    · exact leaves_next.2 (s.noticeView_applyDecided _ _ _ v)
    · exact leaves_next.2 rfl
  | clearBank vs =>
    simp only [exec, execClearBank]
    split
    · exact leaves_next.2 (s.noticeView_applyClearBank _ _ vs)
    · exact leaves_next.2 rfl
  | bankEnd => exact execBankEnd_noticeView s
  | startUpClear v => exact execStartUpClear_noticeView v s
  | toutOpportunity order =>
    have hsend (t : State) (x : Choice) : (t.sendChoice x).noticeView = t.noticeView := by cases x <;> rfl
    exact .ite rfl ((hsend _ _).trans (s.noticeView_allDeferred order))
  | holdQueueDrain =>
    simp only [exec, execHoldQueueDrain]
    split
    · exact leaves_next.2 ((State.noticeView_tryStart _).trans (State.noticeView_lookup _ _))
    · exact leaves_next.2 rfl
  | portSignalPresent n => exact .ite rfl ((State.noticeView_tryAlign _ n).trans (s.noticeView_onPort n _))
  | portSignalLost n begun => exact execPortSignalLost_noticeView n begun s
  | portArrival n bytes => exact .ite (s.noticeView_portArrive n bytes) rfl
  | align n => exact .ite (State.noticeView_onAlign _ n) rfl
  | alignAck n token => exact .ite (State.noticeView_onAlignAck _ n token) rfl
  | credit n amount => exact .ite (State.noticeView_onCredit _ n amount) rfl
  | portOpportunity n => exact .ite rfl (s.noticeView_portOpportunity n)
  | resendTimerExpiry n => exact .ite rfl rfl
  | stallTimerExpiry n => exact .ite rfl rfl
  | silenceTimeout n =>
    refine .ite ((State.noticeView_tryAlign _ n).trans ?_) rfl
    rw [State.noticeView_countPort, State.noticeView_leaveFor]
  | leaseTimerExpiry => exact execLeaseTimerExpiry_noticeView s
  | _ => cases h

section
variable {s : State}

theorem execNoticeAck_noticeLaw (h : NoticeLaw s) : Leaves (execNoticeAck s) NoticeLaw := by
  unfold execNoticeAck
  split
  · exact leaves_next.2 h
  · rename_i m rest _
    refine .ite ?_ h
    have htaken : NoticeLaw ((s.setHands rest).consume.countAgent fun c => { c with acksForwarded := c.acksForwarded + 1 }) :=
      h.congr rfl
    exact (htaken.takeAck m.origin m.cell.reqSeq).congr (noticeView_settleHands _ _)

theorem execEventReport_noticeLaw (b : Block) (h : NoticeLaw s) : Leaves (execEventReport b s) NoticeLaw := by
  unfold execEventReport
  split
  · rename_i r rest _
    have htaken : NoticeLaw { s with handed := rest } := h.congr rfl
    exact leaves_next.2 (htaken.takeReport r)
  · exact leaves_next.2 h

theorem exec_noticeLaw (i : Instr) (h : NoticeLaw s) : Leaves (exec i s) NoticeLaw := by
  cases i with
  | hardwareReset => exact leaves_next.2 (.of_emptied rfl)
  | noticeAck => exact execNoticeAck_noticeLaw h
  | ackTimerExpiry => exact execAckTimerExpiry_noticeLaw h
  | eventReport b => exact execEventReport_noticeLaw b h
  | nodeSet => exact leaves_next.2 (h.takeRequest fun r _ he => he.nodeSet r)
  | nodeReset => exact leaves_next.2 (h.takeRequest fun r _ he => he.nodeReset r)
  | unknownRequest => exact leaves_next.2 (h.takeRequest_of_view fun _ _ => rfl)
  | nodeQuery => exact leaves_next.2 (h.takeRequest_of_view handleNodeQuery_noticeView)
  | countersRead => exact leaves_next.2 (h.takeRequest_of_view fun r e => congrArg _ (handleCountersRead_fst r e))
  | entryRead => exact leaves_next.2 (h.takeRequest_of_view fun r e => congrArg _ (handleEntryRead_fst r e))
  | tableScan => exact leaves_next.2 (h.takeRequest_of_view fun r e => congrArg _ (handleTableScan_fst r e))
  | queueQuery => exact leaves_next.2 (h.takeRequest_of_view fun r e => congrArg _ (handleQueueQuery_fst r e))
  | portQuery => exact leaves_next.2 (h.takeRequest_of_view fun r e => congrArg _ (handlePortQuery_fst r e))
  | queueSet => exact leaves_next.2 (h.takeRequest_of_view handleQueueSet_noticeView)
  | queueFlush => exact leaves_next.2 (h.takeRequest_of_view handleQueueFlush_noticeView)
  | portSet => exact leaves_next.2 (h.takeRequest_of_view handlePortSet_noticeView)
  | countersClear => exact leaves_next.2 (h.takeRequest_of_view handleCountersClear_noticeView)
  | assignAddress => exact leaves_next.2 (h.takeRequest_of_view handleAssignAddress_noticeView)
  | batchOpen => exact leaves_next.2 (h.takeRequest_of_view handleBatchOpen_noticeView)
  | batchEdit => exact leaves_next.2 (h.takeRequest_of_view handleBatchEdit_noticeView)
  | batchCommit => exact leaves_next.2 (h.takeRequest_of_view handleBatchCommit_noticeView)
  | batchAbort => exact leaves_next.2 (h.takeRequest_of_view handleBatchAbort_noticeView)
  | leaseTake => exact leaves_next.2 (h.takeRequest_of_view handleLeaseTake_noticeView)
  | leaseRenew => exact leaves_next.2 (h.takeRequest_of_view handleLeaseRenew_noticeView)
  | leaseGive => exact leaves_next.2 (h.takeRequest_of_view handleLeaseGive_noticeView)
  | _ => exact Leaves.mono (exec_noticeView rfl s) fun _ ht => h.congr ht

end

/-- Settles O8: an operation of the Notice Unit keeps the laws but for an UNSENT oldest entry, which the send of the same
handling settles; every other operation leaves the notices and the destination alone. -/
theorem everyStepKeepsTheNoticeLaw : Obligations.EveryStepKeepsTheNoticeLaw := by
  unfold Obligations.EveryStepKeepsTheNoticeLaw
  intro s t hs hstep
  exact step_keeps (fun i _ h => exec_noticeLaw i h) (fun _ _ h => h.congr rfl) hs hstep

end Sys2Proof.Machine
end

section
namespace Sys2Proof.Machine

/-! ## O55: sending and resending a notice (R177, R181, R182) -/

/-- The NOTICE cell, with the payload of its envelope, its body of 8 bytes, and the rest 00h (R181). -/
theorem State.noticeCell_eq (s : State) (o : Origin) (e : NoticeEntry) :
    s.noticeCell o e =
      { tag := mgmtTag, kind := .mgmt, cls := 3, seq := 0, hop := s.agent.settings.hopLimit, last := true, spare := 0
        len := 16, spareLen := 0
        payload := [o.destByte, s.nodeSource] ++ bytes16 e.number ++ [0x40, 0x80, 0, 8, e.type.code] ++ bytes16 e.subject ++
          e.detail.bytes ++ [BitVec.ofNat 8 e.repeats] ++ List.replicate 42 0 } := by
  have hdetail : e.detail.bytes.length = 4 := by cases e.detail <;> rfl
  have hbody : (e.type.code :: bytes16 e.subject ++ e.detail.bytes ++ [BitVec.ofNat 8 e.repeats]).length = 8 := by
    simp only [List.length_append, List.length_cons, List.length_nil, bytes16, hdetail]
  have hlen : ([o.destByte, s.nodeSource] ++ bytes16 e.number ++ [0x40, 0x80, 0, BitVec.ofNat 8 8] ++
      (e.type.code :: bytes16 e.subject ++ e.detail.bytes ++ [BitVec.ofNat 8 e.repeats])).length = 16 := by
    rw [List.length_append, hbody]
    rfl
  rw [State.noticeCell, mgmtCell, hbody, padTo_of_le (by rw [hlen]; decide), hlen]
  simp only [List.append_assoc]
  rfl

/-- A NOTICE cell has been offered to a queue, with these counters before a refusal is counted, and these notices. -/
def State.noticeOffered (s : State) (q : QueueId) (c : Cell) (k : NoticeCounters) (n : Notices) : State :=
  if s.admits q = true then
    State.setQueue { s with noticeCtr := k, notices := n } q
      { s.queue q with
        entries := (s.queue q).entries ++ [{ cell := c, source := .notice, marked := false }]
        admitted := (s.queue q).admitted + 1 }
  else
    State.setQueue { s with noticeCtr := { k with noticesRefused := k.noticesRefused + 1 }, notices := n } q
      { s.queue q with refused := (s.queue q).refused + 1 }

/-- An offer is counted apart from a refusal of its claim (R181, R182). -/
theorem State.offerNotice_counted (s : State) (o : Origin) (e : NoticeEntry) {f : NoticeCounters → NoticeCounters}
    (hf : ∀ k, f { k with noticesRefused := k.noticesRefused + 1 } =
      { f k with noticesRefused := (f k).noticesRefused + 1 }) (n : Notices) :
    { (s.offerNotice o e).countNotice f with notices := n } =
      s.noticeOffered (mgmtQueue o) (s.noticeCell o e) (f s.noticeCtr) n := by
  unfold State.offerNotice State.noticeOffered
  cases ha : s.admits (mgmtQueue o) with
  | true =>
    rw [State.claim_admitted _ ha]
    rfl
  | false =>
    rw [State.claim_refused _ ha, if_neg Bool.false_ne_true, ← hf]
    rfl

/-- Settles O55: a send and a resend offer the same cell, and differ in the counter and in what becomes of the notices. -/
theorem noticesAreSentAsCells : Obligations.NoticesAreSentAsCells := by
  unfold Obligations.NoticesAreSentAsCells
  intro o e s cell q x offered
  have hcell : s.noticeCell o e = cell := by
    rw [s.noticeCell_eq o e]
    rfl
  have hq : q = mgmtQueue o := by cases o <;> rfl
  have hoffered (k : NoticeCounters) (n : Notices) :
      s.noticeOffered (mgmtQueue o) (s.noticeCell o e) k n = offered k n := by
    rw [hcell, ← hq]
    rfl
  refine ⟨fun rest hd hqueue ha hu => ?_, fun hidle => State.sendOldest_idle hidle, fun retry => ?_⟩
  · rw [State.sendOldest_unsent hd hqueue ha hu, s.offerNotice_counted o e (fun _ => rfl), hoffered]
  · obtain ⟨-, -, -, hnotices⟩ := s.offerNotice_frame o e
    rw [State.resendNotice, State.countNotice_notices, hnotices, s.offerNotice_counted o e (fun _ => rfl), hoffered]

end Sys2Proof.Machine
end

section
namespace Sys2Proof.Machine

/-! ## O56: reports are taken (R177, R178) -/

/-- The oldest report of a block is the one that only reports of other blocks stand before (R177). -/
theorem takeHanded_eq {b : Block} {r : Report} (before after : List Handed) (hb : ∀ h ∈ before, h.block ≠ b) :
    takeHanded b (before ++ { block := b, report := r } :: after) = some (r, before ++ after) := by
  induction before with
  | nil => simp only [List.nil_append, takeHanded, if_true]
  | cons x xs ih =>
    rw [List.forall_mem_cons] at hb
    obtain ⟨hx, hxs⟩ := hb
    simp only [List.cons_append, takeHanded, hx, if_false, ih hxs, Option.map_some]

theorem exec_eventReport {b : Block} {r : Report} {before after : List Handed} {s : State}
    (hh : s.handed = before ++ { block := b, report := r } :: after) (hb : ∀ h ∈ before, h.block ≠ b) :
    exec (.eventReport b) s = .next (State.takeReport { s with handed := before ++ after } r) := by
  simp only [exec, execEventReport, hh, takeHanded_eq before after hb]

/-- Where one entry of a queue is UNSENT of a type and subject, the others stay as they are (R176). -/
theorem combineInto_single {ty : NoticeType} {subject : BitVec 16} (d : NoticeEntry → Detail)
    {front back : List NoticeEntry} {e : NoticeEntry} (he : e.unsentOf ty subject = true)
    (ho : ∀ x ∈ front ++ back, ¬x.unsentOf ty subject = true) :
    combineInto (·.unsentOf ty subject) d (front ++ e :: back) = front ++ e.combined (d e) :: back := by
  have hkept {l : List NoticeEntry} (hl : ∀ x ∈ l, ¬x.unsentOf ty subject = true) :
      combineInto (·.unsentOf ty subject) d l = l :=
    (List.map_congr_left fun x hx => if_neg (hl x hx)).trans (List.map_id _)
  have hsplit : combineInto (·.unsentOf ty subject) d (front ++ e :: back) =
      combineInto (·.unsentOf ty subject) d front ++ e.combined (d e) :: combineInto (·.unsentOf ty subject) d back := by
    rw [combineInto, List.map_append, List.map_cons, if_pos he]
    rfl
  rw [hsplit, hkept fun x hx => ho x (List.mem_append_left _ hx), hkept fun x hx => ho x (List.mem_append_right _ hx)]

section
variable {s : State} {r : Report}

/-- A report is combined with the UNSENT entry of its type and subject (R178). -/
theorem State.takeReport_combined {front back : List NoticeEntry} {e : NoticeEntry}
    (hq : s.notices.queue = front ++ e :: back) (he : e.unsentOf r.type r.subject = true)
    (ho : ∀ x ∈ front ++ back, ¬x.unsentOf r.type r.subject = true) :
    s.takeReport r =
      { s with
        noticeCtr := { s.noticeCtr with
          reportsTaken := s.noticeCtr.reportsTaken + 1, reportsCoalesced := s.noticeCtr.reportsCoalesced + 1 }
        notices := { s.notices with queue := front ++ e.combined r.detail :: back } } := by
  have hany : s.notices.queue.any (·.unsentOf r.type r.subject) = true :=
    List.any_eq_true.2 ⟨e, hq ▸ List.mem_append_right _ List.mem_cons_self, he⟩
  have htaken : s.takeReport r = _ := if_pos hany
  rw [htaken, ← combineInto_single (fun _ => r.detail) he ho, ← hq]
  rfl

variable (hnew : s.notices.queue.any (·.unsentOf r.type r.subject) = false)
include hnew

/-- A report of a new type or subject is appended where there is room, and sent when it is the oldest and may be (R178). -/
theorem State.takeReport_appended (hroom : s.notices.queue.length < 16) :
    s.takeReport r =
      State.sendOldest { s with
        noticeCtr := { s.noticeCtr with
          reportsTaken := s.noticeCtr.reportsTaken + 1, entriesCreated := s.noticeCtr.entriesCreated + 1 }
        notices := { s.notices with
          queue := s.notices.queue ++ [r.entry s.notices.nextNumber], nextNumber := s.notices.nextNumber + 1 } } :=
  (if_neg (Bool.eq_false_iff.1 hnew)).trans (if_pos hroom)

/-- A report of a new type or subject that finds the queue full is lost (R178). -/
theorem State.takeReport_lost (hfull : 16 ≤ s.notices.queue.length) :
    s.takeReport r =
      { s with
        noticeCtr := { s.noticeCtr with
          reportsTaken := s.noticeCtr.reportsTaken + 1, reportsLost := s.noticeCtr.reportsLost + 1 }
        notices := { s.notices with lost := min 65535 (s.notices.lost + 1) } } :=
  (if_neg (Bool.eq_false_iff.1 hnew)).trans (if_neg hfull.not_gt)

end

/-- Settles O56: the oldest report of the block is taken by the first case of R178 that applies. -/
theorem reportsAreTaken : Obligations.ReportsAreTaken := by
  unfold Obligations.ReportsAreTaken
  intro b r before after s hh hb s' k matching
  rw [exec_eventReport hh hb]
  have hmatching (e : NoticeEntry) : e.unsentOf r.type r.subject = true ↔ matching e := e.unsentOf_iff r.type r.subject
  refine ⟨fun front back e hq he ho => ?_, fun hnone => ?_⟩
  · rw [State.takeReport_combined (s := s') hq ((hmatching e).2 he) fun x hx => mt (hmatching x).1 (ho x hx)]
    rfl
  · have hnew : s'.notices.queue.any (·.unsentOf r.type r.subject) = false := any_unsentOf_eq_false.2 hnone
    exact ⟨fun hroom => congrArg _ (State.takeReport_appended hnew hroom),
      fun hfull => congrArg _ (State.takeReport_lost hnew hfull)⟩

end Sys2Proof.Machine
end

section
namespace Sys2Proof.Machine

/-! ## O57: acknowledgement, expiry and contact (R179, R182 to R184) -/

theorem Notices.awaitingEntry_eq_some {n : Notices} {e : NoticeEntry} :
    n.awaitingEntry = some e ↔ ∃ es, n.queue = e :: es ∧ e.awaiting = true := by
  unfold Notices.awaitingEntry
  cases n.queue with
  | nil => exact ⟨nofun, fun ⟨_, hq, _⟩ => nomatch hq⟩
  | cons x xs =>
    dsimp only
    split
    · rename_i hx
      constructor
      · rintro ⟨⟩
        exact ⟨xs, rfl, hx⟩
      · rintro ⟨_, ⟨⟩, _⟩
        rfl
    · rename_i hx
      exact ⟨nofun, fun ⟨_, hq, he⟩ => absurd (List.cons.inj hq).1 fun heq => hx (heq ▸ he)⟩

/-! ### Lost reports (R179) -/

/-- The lost reports have been accounted for in this queue. -/
def State.accounted (s : State) (queue : List NoticeEntry) (next : BitVec 16) (created : Counter) : State :=
  { s with
    notices := { s.notices with queue := queue, nextNumber := next, lost := 0 }
    noticeCtr := { s.noticeCtr with entriesCreated := created } }

section
variable {s : State}

theorem State.accountLost_none (hl : s.notices.lost = 0) :
    s.accountLost = s.accounted s.notices.queue s.notices.nextNumber s.noticeCtr.entriesCreated := by
  rw [State.accountLost, if_pos hl, State.accounted, ← hl]

variable (hl : 0 < s.notices.lost)
include hl

/-- Without an UNSENT NOTICES-LOST entry a new one is appended. -/
theorem State.accountLost_appended (hnew : s.notices.queue.any (·.unsentOf .noticesLost 0) = false) :
    s.accountLost =
      s.accounted
        (s.notices.queue ++
          [Report.entry { type := .noticesLost, subject := 0, detail := .count s.notices.lost } s.notices.nextNumber])
        (s.notices.nextNumber + 1) (s.noticeCtr.entriesCreated + 1) :=
  (if_neg (Nat.ne_of_gt hl)).trans (if_neg (Bool.eq_false_iff.1 hnew))

/-- The UNSENT NOTICES-LOST entry takes up the lost reports. -/
theorem State.accountLost_extended {front back : List NoticeEntry} {e : NoticeEntry}
    (hq : s.notices.queue = front ++ e :: back) (he : e.unsentOf .noticesLost 0 = true)
    (ho : ∀ x ∈ front ++ back, ¬x.unsentOf .noticesLost 0 = true) :
    s.accountLost =
      s.accounted (front ++ e.combined (addLost e.detail s.notices.lost) :: back) s.notices.nextNumber
        s.noticeCtr.entriesCreated := by
  have hany : s.notices.queue.any (·.unsentOf .noticesLost 0) = true :=
    List.any_eq_true.2 ⟨e, hq ▸ List.mem_append_right _ List.mem_cons_self, he⟩
  have hextended : s.accountLost = _ := (if_neg (Nat.ne_of_gt hl)).trans (if_pos hany)
  rw [hextended, ← combineInto_single (fun x => addLost x.detail s.notices.lost) he ho, ← hq]
  rfl

end

/-! ### The acknowledgement (R142, R183) -/

/-- The AWAITING entry acknowledged and removed. -/
def State.acknowledged (s : State) : State :=
  { s with
    notices := { s.notices with queue := s.notices.queue.tail, ackTimer := none, unreachable := false }
    noticeCtr := { s.noticeCtr with acksMatched := s.noticeCtr.acksMatched + 1 } }

section
variable {s : State} {o : Origin} {number : BitVec 16}

theorem State.takeAck_matched (h : ∃ e es, s.notices.queue = e :: es ∧ e.awaiting = true ∧
    s.agent.settings.destination = some o ∧ e.number = number) :
    s.takeAck o number = s.acknowledged.accountLost.sendOldest := by
  obtain ⟨e, es, hq, ha, hd, hn⟩ := h
  simp only [State.takeAck, Notices.awaitingEntry_eq_some.2 ⟨es, hq, ha⟩, hd, hn, and_self, if_true]
  rfl

theorem State.takeAck_ignored (h : ¬∃ e es, s.notices.queue = e :: es ∧ e.awaiting = true ∧
    s.agent.settings.destination = some o ∧ e.number = number) :
    s.takeAck o number = s.countNotice fun c => { c with acksIgnored := c.acksIgnored + 1 } := by
  unfold State.takeAck
  dsimp only
  split
  · rename_i e he
    obtain ⟨es, hq, ha⟩ := Notices.awaitingEntry_eq_some.1 he
    exact if_neg fun ⟨hd, hn⟩ => h ⟨e, es, hq, ha, hd, hn⟩
  · rfl

theorem State.takeAck_agent (s : State) (o : Origin) (number : BitVec 16) : (s.takeAck o number).agent = s.agent := by
  by_cases h : ∃ e es, s.notices.queue = e :: es ∧ e.awaiting = true ∧
    s.agent.settings.destination = some o ∧ e.number = number
  · rw [State.takeAck_matched h, State.sendOldest_agent, State.accountLost_agent]
    rfl
  · rw [State.takeAck_ignored h]
    rfl

end

/-- A NOTICE-ACK taken out of the Agent's hands and counted (R142, R158). -/
def State.ackForwarded (s : State) (rest : List HandCell) : State :=
  { s with
    agent := { s.agent with hands := rest }
    agentCtr := { s.agentCtr with
      requestsConsumed := s.agentCtr.requestsConsumed + 1
      acksForwarded := s.agentCtr.acksForwarded + 1 } }

/-- The Notice Unit takes the acknowledgement, and the Agent then deals with the cells behind it (R142, R183). -/
theorem exec_noticeAck {s : State} {m : HandCell} {rest : List HandCell} (hh : s.held = false)
    (hm : s.agent.hands = m :: rest) (hv : s.verdict m = .ack) :
    exec .noticeAck s = .next (settleHands rest ((s.ackForwarded rest).takeAck m.origin m.cell.reqSeq)) := by
  have hhands : ((s.ackForwarded rest).takeAck m.origin m.cell.reqSeq).agent.hands = rest := by
    rw [State.takeAck_agent]
    rfl
  simp only [exec, execNoticeAck, hm, hh, hv, and_self, if_true]
  exact congrArg (fun x => Host.Outcome.next (settleHands x _)) hhands

/-! ### Expiry and contact (R182, R184) -/

section
variable {s : State} {e : NoticeEntry} {o : Origin} (ha : s.notices.awaitingEntry = some e)
  (hd : s.agent.settings.destination = some o)
include ha hd

theorem exec_ackTimerExpiry (hh : s.held = false) (ht : s.notices.ackTimer ≠ none) :
    exec .ackTimerExpiry s = .next
      (if s.notices.retry < 4 then s.resendNotice o e (s.notices.retry + 1)
        else { s with
          notices := { s.notices with unreachable := true, ackTimer := none }
          noticeCtr := { s.noticeCtr with unreachables := s.noticeCtr.unreachables + 1 } }) := by
  obtain ⟨period, hperiod⟩ := Option.ne_none_iff_exists'.1 ht
  simp only [exec, execAckTimerExpiry, hh, hperiod, ha, hd]
  split <;> rfl

theorem State.contact_unreachable (hu : s.notices.unreachable = true) :
    s.contact o = s.reachable.resendNotice o e 0 := by
  simp only [State.contact, hu, ha, hd, if_true]
  rfl

end

theorem State.contact_idle {s : State} {o other : Origin} (hd : s.agent.settings.destination = some o)
    (h : other ≠ o ∨ s.notices.unreachable = false) : s.contact other = s := by
  unfold State.contact
  split
  · rename_i hu _
    rcases h with hne | hreached
    · exact if_neg fun hother => hne (Option.some.inj (hother.symm.trans hd))
    · exact absurd (hu.symm.trans hreached) nofun
  · rfl

/-- Settles O57: an acknowledgement by its match and then by the reports lost; an expiry by the retry count; a contact by its
origin and the flag. -/
theorem noticesAreAcknowledged : Obligations.NoticesAreAcknowledged := by
  unfold Obligations.NoticesAreAcknowledged
  intro s
  refine ⟨fun m rest hh hm hf hs hc => ?_, fun e es o hq ha hd => ?_⟩
  · intro k taken matched removed lossEntry
    rw [exec_noticeAck hh hm (State.verdict_ack hf hs hc)]
    have hloss (e : NoticeEntry) : e.unsentOf .noticesLost 0 = true ↔ lossEntry e := e.unsentOf_iff .noticesLost 0
    have settled (hmatch : matched) {queue : List NoticeEntry} {next : BitVec 16} {created : Counter}
        (h : taken.acknowledged.accountLost = taken.acknowledged.accounted queue next created) :
        Host.Outcome.next (settleHands rest ((s.ackForwarded rest).takeAck m.origin m.cell.reqSeq)) =
          (.next (settleHands rest (removed queue next created).sendOldest) : Host.Outcome State Fault Refusal) := by
      have htaken : (s.ackForwarded rest).takeAck m.origin m.cell.reqSeq = taken.acknowledged.accountLost.sendOldest :=
        State.takeAck_matched hmatch
      rw [htaken, h]
      rfl
    refine ⟨fun hno => ?_, fun hmatch hl => settled hmatch (State.accountLost_none hl),
      fun hmatch hl hnone => settled hmatch (State.accountLost_appended hl (any_unsentOf_eq_false.2 hnone)),
      fun hmatch hl front back e n hq he hdetail ho => settled hmatch ?_⟩
    · exact congrArg (fun t => Host.Outcome.next (settleHands rest t)) (State.takeAck_ignored (s := taken) hno)
    · rw [State.accountLost_extended (s := taken.acknowledged) hl hq ((hloss e).2 he)
        fun x hx => mt (hloss x).1 (ho x hx), hdetail]
      rfl
  · have hentry : s.notices.awaitingEntry = some e := Notices.awaitingEntry_eq_some.2 ⟨es, hq, ha⟩
    refine ⟨fun hh ht hretry => ?_, fun hh ht hretry => ?_, State.contact_unreachable hentry hd,
      fun other => State.contact_idle hd⟩
    · rw [exec_ackTimerExpiry hentry hd hh ht, if_pos (Nat.lt_succ_of_le hretry)]
    · rw [exec_ackTimerExpiry hentry hd hh ht, if_neg hretry.not_gt]

end Sys2Proof.Machine
end

section
namespace Sys2Proof.Machine

/-! ## O1: a step and the command at the front of the queue (log entry 15) -/

section
variable {s : State}

theorem step_of_pending_nil (h : s.pending = []) : step s = .next s := by
  unfold step
  rw [h]

theorem step_of_pending_cons {c : Instr} {rest : List Instr} (h : s.pending = c :: rest) :
    step s = exec c { s with pending := rest } := by
  unfold step
  rw [h]

end

/-- Settles O1: the two cases of the queue. -/
theorem stepTakesTheFrontCommand : Obligations.StepTakesTheFrontCommand := by
  unfold Obligations.StepTakesTheFrontCommand
  exact ⟨fun _ _ _ => step_of_pending_cons rfl, fun _ => step_of_pending_nil⟩

/-! ## O2: no command stops the machine (log entries 2 and 15) -/

/-- The machine does not stop: the outcome is a next state. -/
def GoesOn (o : Host.Outcome State Fault Refusal) : Prop := ∃ t, o = .next t

theorem GoesOn.next (t : State) : GoesOn (.next t) := ⟨t, rfl⟩

theorem GoesOn.ite {p : Prop} [Decidable p] {a b : Host.Outcome State Fault Refusal} (ha : GoesOn a) (hb : GoesOn b) :
    GoesOn (if p then a else b) := by
  split
  · exact ha
  · exact hb

section
variable (s : State)

/-! ### The commands that look at more than one condition -/

theorem execPortSignalLost_goesOn (n : PortId) (begun : Bool) : GoesOn (execPortSignalLost n begun s) := by
  unfold execPortSignalLost
  refine .ite (.next s) ?_
  cases (s.port n).state <;> exact .next _

theorem execBankEnd_goesOn : GoesOn (execBankEnd s) := by
  unfold execBankEnd
  refine .ite ?_ (.next s)
  cases s.bankInProgress <;> exact .next _

theorem execHoldQueueDrain_goesOn : GoesOn (execHoldQueueDrain s) := by
  unfold execHoldQueueDrain
  split <;> exact .next _

theorem execAckTimerExpiry_goesOn : GoesOn (execAckTimerExpiry s) := by
  unfold execAckTimerExpiry
  split
  · exact .ite (.next _) (.next _)
  · exact .next s

theorem execLeaseTimerExpiry_goesOn : GoesOn (execLeaseTimerExpiry s) := by
  unfold execLeaseTimerExpiry
  split
  · cases s.batch.state <;> exact .next _
  · exact .next s

theorem execEventReport_goesOn (b : Block) : GoesOn (execEventReport b s) := by
  unfold execEventReport
  split <;> exact .next _

theorem execNoticeAck_goesOn : GoesOn (execNoticeAck s) := by
  unfold execNoticeAck
  split
  · exact .next s
  · exact .ite (.next _) (.next s)

/-! ### Every command, and every run -/

/-- A command of an edit is carried out where the next edit is of its op; a command with one condition answers the state as it is
outside it; HARDWARE_RESET and the requests answer next as they are written. -/
theorem exec_goesOn (c : Instr) : GoesOn (exec c s) := by
  cases c with
  | write | clear | refill | bar | unbar | clearBank =>
    dsimp only [exec, execWrite, execClear, execRefill, execBar, execUnbar, execClearBank]
    split <;> exact .next _
  | portSignalLost n begun => exact execPortSignalLost_goesOn s n begun
  | bankEnd => exact execBankEnd_goesOn s
  | holdQueueDrain => exact execHoldQueueDrain_goesOn s
  | ackTimerExpiry => exact execAckTimerExpiry_goesOn s
  | leaseTimerExpiry => exact execLeaseTimerExpiry_goesOn s
  | eventReport b => exact execEventReport_goesOn s b
  | noticeAck => exact execNoticeAck_goesOn s
  | hardwareResetEnd | recordDamage | startUpClear | tinSignalPresent | tinSignalLost | tinArrival | toutOpportunity
  | applyStart | portSignalPresent | portArrival | align | alignAck | credit | portOpportunity | resendTimerExpiry
  | stallTimerExpiry | silenceTimeout => exact .ite (.next _) (.next _)
  | hardwareReset | unknownRequest | nodeQuery | countersRead | entryRead | tableScan | queueQuery | portQuery | nodeSet
  | queueSet | queueFlush | portSet | countersClear | nodeReset | assignAddress | batchOpen | batchEdit | batchCommit
  | batchAbort | leaseTake | leaseRenew | leaseGive => exact .next _

theorem step_goesOn : GoesOn (step s) := by
  cases h : s.pending with
  | nil => exact ⟨s, step_of_pending_nil h⟩
  | cons c rest =>
    rw [step_of_pending_cons h]
    exact exec_goesOn _ c

end

theorem safeRun_succ {k : Nat} {s t : State} (h : step s = .next t) : SafeRun (k + 1) s ↔ SafeRun k t := by
  have hcore : core.step s = .next t := h
  simp only [SafeRun, Host.Core.run, hcore]

theorem safeRun (k : Nat) (s : State) : SafeRun k s := by
  induction k generalizing s with
  | zero => exact ⟨s, rfl⟩
  | succ k ih =>
    obtain ⟨t, ht⟩ := step_goesOn s
    exact (safeRun_succ ht).2 (ih t)

/-- Settles O2: no arm of `exec` answers a fault or a refusal, so a run goes on step by step. -/
theorem everyRunGoesOn : Obligations.EveryRunGoesOn := by
  unfold Obligations.EveryRunGoesOn
  exact ⟨fun c s => exec_goesOn s c, safeRun⟩

end Sys2Proof.Machine
end
